-- ==== Sys2Proof/Word.lean ====
section
/-! DEFINITION. Plain data the whole model stands on: bytes, the numbered positions of the spec (doors,
channels, formation slots) and tables with a fixed number of cells. -/

namespace Sys2Proof

/-- One byte of a link frame (R176). -/
abbrev Byte := BitVec 8

/-- A platform door position. Position `d` is platform door `d + 1` of the spec (00_scope.md 5.3). -/
abbrev Door := Fin 40

/-- A sensing channel. Index `c` is channel number `c + 1` of the spec (R7). -/
abbrev Channel := Fin 80

/-- A formation slot. Index `k` is slot number `k + 1` of the spec (R8). -/
abbrev Slot := Fin 24

/-- A pair of levels of lines P and Q of a reader (R17). -/
abbrev LineState := Fin 4

/-- A probe sample in sample steps (R87). -/
abbrev Sample := Fin 1024

/-- A table with exactly `n` cells. The list carries its length, so no cell is ever missing. -/
structure Tab (n : Nat) (α : Type) where
  cells : List α
  size : cells.length = n
deriving DecidableEq, Repr

/-- The cell at position `i`. -/
def Tab.get {n : Nat} {α : Type} (t : Tab n α) (i : Fin n) : α :=
  t.cells[i.val]'(by rw [t.size]; exact i.isLt)

/-- The table with the cell at position `i` replaced. -/
def Tab.set {n : Nat} {α : Type} (t : Tab n α) (i : Fin n) (a : α) : Tab n α :=
  ⟨t.cells.set i.val a, by rw [List.length_set]; exact t.size⟩

/-- The table with the same value in every cell. -/
def Tab.fill {α : Type} (n : Nat) (a : α) : Tab n α :=
  ⟨List.replicate n a, List.length_replicate⟩

/-- The table whose cell `i` is `f i`. -/
def Tab.ofFn {n : Nat} {α : Type} (f : Fin n → α) : Tab n α :=
  ⟨List.ofFn f, List.length_ofFn⟩

@[simp] theorem Tab.get_set_self {n : Nat} {α : Type} (t : Tab n α) (i : Fin n) (a : α) :
    (t.set i a).get i = a := by
  simp [Tab.get, Tab.set]

theorem Tab.get_set_ne {n : Nat} {α : Type} (t : Tab n α) {i j : Fin n} (a : α) (h : i ≠ j) :
    (t.set i a).get j = t.get j := by
  have hv : i.val ≠ j.val := fun e => h (Fin.ext e)
  simp [Tab.get, Tab.set, List.getElem_set_ne hv]

theorem Tab.get_set {n : Nat} {α : Type} (t : Tab n α) (i j : Fin n) (a : α) :
    (t.set i a).get j = if i = j then a else t.get j := by
  by_cases h : i = j
  · subst h; simp
  · rw [Tab.get_set_ne t a h, if_neg h]

@[simp] theorem Tab.get_fill {n : Nat} {α : Type} (a : α) (i : Fin n) :
    (Tab.fill n a).get i = a := by
  simp [Tab.get, Tab.fill]

@[simp] theorem Tab.get_ofFn {n : Nat} {α : Type} (f : Fin n → α) (i : Fin n) :
    (Tab.ofFn f).get i = f i := by
  simp [Tab.get, Tab.ofFn]

/-- Two tables with the same cells are equal. -/
theorem Tab.ext_get {n : Nat} {α : Type} {t u : Tab n α} (h : ∀ i, t.get i = u.get i) : t = u := by
  obtain ⟨tc, ht⟩ := t
  obtain ⟨uc, hu⟩ := u
  have : tc = uc := by
    apply List.ext_getElem
    · rw [ht, hu]
    · intro i h1 h2
      have := h ⟨i, by omega⟩
      simpa [Tab.get] using this
  subst this
  rfl

/-- Every platform door position, in ascending number. -/
def allDoors : List Door := List.finRange 40

/-- Every channel, in ascending number. -/
def allChannels : List Channel := List.finRange 80

/-- Every formation slot, in ascending number. -/
def allSlots : List Slot := List.finRange 24

/-- The position whose platform door number is `k`, if there is one. -/
def doorOfNumber (k : Nat) : Option Door :=
  if h : 1 ≤ k ∧ k ≤ 40 then some ⟨k - 1, by omega⟩ else none

/-- The channel whose number is `k`, if there is one. -/
def channelOfNumber (k : Nat) : Option Channel :=
  if h : 1 ≤ k ∧ k ≤ 80 then some ⟨k - 1, by omega⟩ else none

/-- The slot whose number is `k`, if there is one. -/
def slotOfNumber (k : Nat) : Option Slot :=
  if h : 1 ≤ k ∧ k ≤ 24 then some ⟨k - 1, by omega⟩ else none

/-- A set of platform doors (00_scope.md 5.6: each member at most once, no order), as a membership table. -/
abbrev DoorSet := Tab 40 Bool

/-- The set with no door. -/
def DoorSet.empty : DoorSet := Tab.fill 40 false

/-- The set with `d` added. -/
def DoorSet.insert (t : DoorSet) (d : Door) : DoorSet := Tab.set t d true

/-- The set with `d` taken out. -/
def DoorSet.erase (t : DoorSet) (d : Door) : DoorSet := Tab.set t d false

/-- The members of either set. -/
def DoorSet.union (t u : DoorSet) : DoorSet := Tab.ofFn fun d => t.get d || u.get d

/-- The members, in ascending number. -/
def DoorSet.toList (t : DoorSet) : List Door := allDoors.filter fun d => t.get d

end Sys2Proof
end

