-- ==== Sys2Proof/Config.lean ====
section
/-! DEFINITION. What the part fixes once: the fixed timings and limits of the manual, and the values the
manual leaves open, as constants without a body. All times are whole hundredths of a second, the
resolution of the internal timers (00_scope.md 5.5). -/

namespace Sys2Proof.Config

/-- Train link supervision, 1.00 s (R6, R154). -/
def trainSupervision : Nat := 100

/-- Interlocking link supervision, 0.60 s (R6, R166). -/
def interlockingSupervision : Nat := 60

/-- Station link supervision, 5.00 s (R6, R170). -/
def stationSupervision : Nat := 500

/-- Departure quiet time, 10.00 s (R6, R58). -/
def departureQuiet : Nat := 1000

/-- Period of BERTH_STATUS, 0.20 s (R153, R162). -/
def berthStatusPeriod : Nat := 20

/-- Period of PLATFORM_STATE, 0.20 s (R165, R168). -/
def platformStatePeriod : Nat := 20

/-- Period of STATION_STATUS, 1.00 s (R170, R173). -/
def stationStatusPeriod : Nat := 100

/-- One second of device time (R106). -/
def second : Nat := 100

/-- Capacity of the release list (R107). -/
def releaseCapacity : Nat := 16

/-- Reopen limit (R71). -/
def reopenLimit : Nat := 3

/-- Door loop miss limit (R64). -/
def missLimit : Nat := 3

/-- Illegal transitions that put a NORMAL reader into FAULT (R27). -/
def illegalLimit : Nat := 4

/-- Samples at a rail that put a channel to FAULT (R96). -/
def railLimit : Nat := 8

/-- Samples summed in LEARNING (R92). -/
def learnSamples : Nat := 16

/-- Upper end of the baseline range, in sixteenths (R87). -/
def baselineMax : Int := 16368

/-- Limits of a reader count (R16). -/
def countMax : Int := 32767
def countMin : Int := -32768

/-- FREE VALUE (assumption 20). The bytes that stand in a read record for an item whose encoding R177 does
not state: an absent item whose range includes 0, or an item that is itself a record. The number names the item. -/
opaque unstatedEncoding : Nat → List Byte

end Sys2Proof.Config
end

