-- ==== Sys2Proof/Syntax.lean ====
section
/-! DEFINITION. The commands of the part: one constructor of `Instr` per row of spec/opcode_table.json, and the
types of their operands. A command is one step of the part (95_what_each_step_holds.md): a frame taken on a
link, a change of a console contact or of a reader input, the end of a poll or of a conversion, the expiry of
a timer, or a reset. -/

namespace Sys2Proof

/-- An end of the platform. It also names the reader and beam at that end, a heading (00_scope.md 5.4) and a
physical direction of travel (R17). -/
inductive End where
  | a
  | b
deriving DecidableEq, Repr

/-- The message links (00_scope.md 4). -/
inductive Link where
  | train
  | interlocking
  | station
deriving DecidableEq, Repr

/-- The version field of a valid frame (R176) and the version of a train session (R153). -/
inductive Version where
  | v1
  | v2
deriving DecidableEq, Repr

/-- What a valid frame carries beside its kind: the link it arrived on, and the version, sequence and
payload fields (11.1). -/
structure Frame where
  link : Link
  version : Version
  seq : Byte
  payload : List Byte
deriving DecidableEq, Repr

/-- The leaf field of a report (R64). -/
inductive Leaf where
  | closed
  | opened
  | moving
  | intermediate
deriving DecidableEq, Repr

/-- The handle field of a report (R64). -/
inductive Handle where
  | normal
  | pulled
deriving DecidableEq, Repr

/-- The isolation switch field of a report (R64). -/
inductive IsolationSwitch where
  | normal
  | isolated
deriving DecidableEq, Repr

/-- A door unit's report (R64). -/
structure Report where
  leaf : Leaf
  locked : Bool
  obstruction : Bool
  handle : Handle
  isolation : IsolationSwitch
  motorFault : Bool
  unitRestarted : Bool
deriving DecidableEq, Repr

/-- "Closed and locked" (R64). -/
def Report.closedLocked (r : Report) : Bool := r.leaf == .closed && r.locked

/-- State of a reference beam (R16). -/
inductive Beam where
  | broken
  | clear
deriving DecidableEq, Repr

/-- The console buttons (R138). -/
inductive Button where
  | localOpen
  | localClose
  | forceClose
deriving DecidableEq, Repr

/-- Positions of the console LOCAL switch (R138). -/
inductive SwitchPosition where
  | atLocal
  | atRemote
deriving DecidableEq, Repr

/-- The present levels of one reader's inputs (R31): its two lines, its health line (`true` is high) and the beam
at its end. -/
structure ReaderLevels where
  lines : LineState
  health : Bool
  beam : Beam
deriving DecidableEq, Repr

/-- The present levels of every sampled input, as a start finds them (R31, R125, R126, R147). -/
structure Levels where
  readerA : ReaderLevels
  readerB : ReaderLevels
  perLine : Bool
  fireLine : Bool
  localSwitch : SwitchPosition
  maintenanceKey : Bool
  restoreKey : Bool
  localOpenPressed : Bool
  localClosePressed : Bool
  forceClosePressed : Bool
deriving DecidableEq, Repr

/-- The commands: one constructor per row of spec/opcode_table.json, in the table's order. -/
inductive Instr where
  /-- ANNOUNCE (R35) -/
  | announce (f : Frame)
  /-- STOP_REPORT (R36) -/
  | stopReport (f : Frame)
  /-- PRESENCE (R36) -/
  | presence (f : Frame)
  /-- RELEASE_REQ (R49) -/
  | releaseReq (f : Frame)
  /-- OPEN_REQ (R52) -/
  | openReq (f : Frame)
  /-- CLOSE_REQ (R53) -/
  | closeReq (f : Frame)
  /-- TRAIN_EMERGENCY (R113) -/
  | trainEmergency (f : Frame)
  /-- TRAIN_EMERGENCY_END (R115) -/
  | trainEmergencyEnd (f : Frame)
  /-- DEPART_NOTICE (R157) -/
  | departNotice (f : Frame)
  /-- BERTH_AUTHORISE (R47) -/
  | berthAuthorise (f : Frame)
  /-- BERTH_REVOKE (R47) -/
  | berthRevoke (f : Frame)
  /-- STATUS_POLL (R167) -/
  | statusPoll (f : Frame)
  /-- MODE_SET (R140) -/
  | modeSet (f : Frame)
  /-- DOOR_CUTOUT (R78) -/
  | doorCutout (f : Frame)
  /-- DOOR_CUTIN (R78) -/
  | doorCutin (f : Frame)
  /-- DOOR_REINIT (R77) -/
  | doorReinit (f : Frame)
  /-- GAP_BYPASS (R131) -/
  | gapBypass (f : Frame)
  /-- FORCE_CLOSE (R72) -/
  | forceClose (f : Frame)
  /-- PARTIAL_RELEASE_AUTHORISE (R48) -/
  | partialReleaseAuthorise (f : Frame)
  /-- BERTH_CLEAR (R57) -/
  | berthClear (f : Frame)
  /-- RELEASE_RESTORE (R116) -/
  | releaseRestore (f : Frame)
  /-- RESTORE_ALL (R117) -/
  | restoreAll (f : Frame)
  /-- CHANNEL_RELEARN (R98) -/
  | channelRelearn (f : Frame)
  /-- READER_RESET (R28) -/
  | readerReset (f : Frame)
  /-- ATTENTION_CLEAR (R172) -/
  | attentionClear (f : Frame)
  /-- ATTENTION_ENABLE (R173) -/
  | attentionEnable (f : Frame)
  /-- TIME_SET (R122) -/
  | timeSet (f : Frame)
  /-- STATUS_READ (R84) -/
  | statusRead (f : Frame)
  /-- RECORD_READ (R123) -/
  | recordRead (f : Frame)
  /-- BERTH_READ (R171) -/
  | berthRead (f : Frame)
  /-- CHANNEL_READ (R101) -/
  | channelRead (f : Frame)
  /-- CONFIG_READ (R12) -/
  | configRead (f : Frame)
  /-- CONFIG_WRITE (R11) -/
  | configWrite (f : Frame)
  /-- DOOR_TEST (R149) -/
  | doorTest (f : Frame)
  /-- RETAINED_CLEAR (R121) -/
  | retainedClear (f : Frame)
  /-- RESTART (R174) -/
  | restart (f : Frame)
  /-- UNASSIGNED_KIND_FRAME (R176): a valid frame whose kind is not assigned to its link -/
  | unassignedKindFrame (f : Frame) (kind : Byte)
  /-- INVALID_FRAME (R176): the bytes received between two idle gaps, failing a check -/
  | invalidFrame (link : Link) (bytes : List Byte)
  /-- LOCAL_OPEN (R148): the button is pressed -/
  | localOpen
  /-- LOCAL_CLOSE (R148): the button is pressed -/
  | localClose
  /-- FORCE_CLOSE_BUTTON (R148): the button is pressed -/
  | forceCloseButton
  /-- BUTTON_RELEASE (R147) -/
  | buttonRelease (button : Button)
  /-- LOCAL_SWITCH_EDGE (R139) -/
  | localSwitchEdge (position : SwitchPosition)
  /-- MAINTENANCE_KEY_CHANGE (R141) -/
  | maintenanceKeyChange (on : Bool)
  /-- RESTORE_KEY_CHANGE (R141) -/
  | restoreKeyChange (on : Bool)
  /-- PER_LINE_ASSERT (R111) -/
  | perLineAssert
  /-- PER_LINE_DEASSERT (R114) -/
  | perLineDeassert
  /-- FIRE_LINE_ASSERT (R111) -/
  | fireLineAssert
  /-- FIRE_LINE_DEASSERT (R114) -/
  | fireLineDeassert
  /-- LINE_TRANSITION (R17): the new pair of levels of a reader's lines -/
  | lineTransition (reader : End) (lines : LineState)
  /-- BEAM_BREAK (R23) -/
  | beamBreak (reader : End)
  /-- BEAM_CLEAR (R24) -/
  | beamClear (reader : End)
  /-- HEALTH_LINE_DROP (R27) -/
  | healthLineDrop (reader : End)
  /-- HEALTH_LINE_RISE (R27) -/
  | healthLineRise (reader : End)
  /-- POLL_SEND (R62) -/
  | pollSend
  /-- POLL_REPLY (R65) -/
  | pollReply (door : Door) (report : Report)
  /-- POLL_MISS (R64) -/
  | pollMiss (door : Door)
  /-- UNLOCK_TIMEOUT_EXPIRY (R68) -/
  | unlockTimeoutExpiry (door : Door)
  /-- OPEN_TIMEOUT_EXPIRY (R68) -/
  | openTimeoutExpiry (door : Door)
  /-- CLOSE_TIMEOUT_EXPIRY (R71) -/
  | closeTimeoutExpiry (door : Door)
  /-- CLOSE_WARNING_LEAD_EXPIRY (R70) -/
  | closeWarningLeadExpiry (door : Door)
  /-- DOORWAY_WAIT_LIMIT_EXPIRY (R70) -/
  | doorwayWaitLimitExpiry (door : Door)
  /-- REOPEN_HOLD_EXPIRY (R71) -/
  | reopenHoldExpiry (door : Door)
  /-- WARNING_ON_EXPIRY (R83) -/
  | warningOnExpiry (door : Door)
  /-- WARNING_OFF_EXPIRY (R83) -/
  | warningOffExpiry (door : Door)
  /-- CONVERSION_END (R88) -/
  | conversionEnd (channel : Channel) (sample : Sample)
  /-- STOP_SETTLE_EXPIRY (R37) -/
  | stopSettleExpiry
  /-- DEPARTURE_QUIET_EXPIRY (R58) -/
  | departureQuietExpiry
  /-- SECURE_CONFIRM_EXPIRY (R132) -/
  | secureConfirmExpiry
  /-- TRAIN_LINK_SUPERVISION_EXPIRY (R154) -/
  | trainLinkSupervisionExpiry
  /-- BERTH_STATUS_TIMER_EXPIRY (R162) -/
  | berthStatusTimerExpiry
  /-- IL_LINK_SUPERVISION_EXPIRY (R166) -/
  | ilLinkSupervisionExpiry
  /-- PLATFORM_STATE_TIMER_EXPIRY (R168) -/
  | platformStateTimerExpiry
  /-- STATION_LINK_SUPERVISION_EXPIRY (R170) -/
  | stationLinkSupervisionExpiry
  /-- STATION_STATUS_TIMER_EXPIRY (R173) -/
  | stationStatusTimerExpiry
  /-- DEVICE_TIME_TICK (R106) -/
  | deviceTimeTick
  /-- COLD_START (R125): the levels the inputs have as power comes -/
  | coldStart (levels : Levels)
  /-- SUPPLY_DIP (R174): the levels the inputs have as the part starts again -/
  | supplyDip (levels : Levels)
  /-- WARM_RESTART (R174): the levels the inputs have as the part starts again -/
  | warmRestart (levels : Levels)
deriving DecidableEq, Repr

end Sys2Proof
end

