-- ==== Sys2Proof/Machine/Frames.lean ====
section
/-! DEFINITION. Frames on the message links: the check sequence, the judgement of received bytes, and the kind codes
(11.1). -/

namespace Sys2Proof.Machine

/-! ## The check sequence (R176) -/

/-- One bit into the check register: polynomial x^16 + x^12 + x^5 + 1. -/
def crcBit (reg : BitVec 16) (bit : Bool) : BitVec 16 :=
  let shifted := reg <<< 1
  if reg.msb != bit then shifted ^^^ 0x1021#16 else shifted

/-- One byte into the check register, most significant bit first. -/
def crcByte (reg : BitVec 16) (b : Byte) : BitVec 16 :=
  [7, 6, 5, 4, 3, 2, 1, 0].foldl (fun r i => crcBit r (b.getLsbD i)) reg

/-- The check sequence of the bytes of header and payload: the register starts at all ones and is sent as it ends. -/
def crc (bs : List Byte) : BitVec 16 := bs.foldl crcByte 0xFFFF#16

/-- The two check bytes, high byte first. -/
def crcBytes (bs : List Byte) : List Byte :=
  let c := crc bs
  [(c >>> 8).truncate 8, c.truncate 8]

/-! ## Judging received bytes (R176) -/

/-- The version a version field names. -/
def versionOfByte (b : Byte) : Option Version :=
  if b = 1 then some .v1 else if b = 2 then some .v2 else none

/-- The version field of a version. -/
def versionByte : Version → Byte
  | .v1 => 1
  | .v2 => 2

/-- A valid frame as received: version, kind, sequence and payload. -/
structure Received where
  version : Version
  kind : Byte
  seq : Byte
  payload : List Byte
deriving DecidableEq, Repr

/-- The bytes between two idle gaps judged: `none` when a check of R176 fails, else the frame. -/
def judge (bs : List Byte) : Option Received :=
  match bs with
  | v :: k :: q :: n :: rest =>
    if n.toNat ≤ 240 ∧ rest.length = n.toNat + 2 then
      match versionOfByte v with
      | some ver =>
        let payload := rest.take n.toNat
        if rest.drop n.toNat = crcBytes (v :: k :: q :: n :: payload) then some ⟨ver, k, q, payload⟩ else none
      | none => none
    else none
  | _ => none

/-- The bytes of a frame (11.1). -/
def frameBytes (version : Version) (kind seq : Byte) (payload : List Byte) : List Byte :=
  let body := versionByte version :: kind :: seq :: BitVec.ofNat 8 payload.length :: payload
  body ++ crcBytes body

/-! ## Kinds (11.1) -/

/-- The kinds that a link carries to the part. -/
def kindsOf : Link → List Byte
  | .train => [0x10, 0x11, 0x12, 0x13, 0x14, 0x15, 0x16, 0x17, 0x18]
  | .interlocking => [0x20, 0x21, 0x22]
  | .station =>
    [0x30, 0x31, 0x32, 0x33, 0x34, 0x35, 0x36, 0x37, 0x38, 0x39, 0x3A, 0x3B, 0x3C, 0x3D, 0x3E, 0x3F, 0x40, 0x41,
     0x42, 0x43, 0x48, 0x49, 0x4A, 0x4B]

/-- Whether the tables assign a kind to a link. -/
def kindAssigned (link : Link) (kind : Byte) : Bool := (kindsOf link).contains kind

/-- Kind code of a REPLY. -/
def replyKind : Byte := 0xFF

/-- Kind codes of the reports. -/
def berthStatusKind : Byte := 0x80
def doorSummaryKind : Byte := 0x81
def platformStateKind : Byte := 0x82
def stationStatusKind : Byte := 0x83

end Sys2Proof.Machine
end

