-- ==== Sys2Proof/WellFormed.lean ====
section
/-! DEFINITION. When a command is one the part can meet: a framed command as a port would hand it on (R176), a discarded
frame that does fail a check. The other commands are well formed by their types. -/

namespace Sys2Proof

/-- A frame of a kind defined on a link: it came on that link, and its payload fits the length field (11.1). -/
def Frame.wellFormedOn (link : Link) (f : Frame) : Bool := f.link == link && decide (f.payload.length ≤ 240)

/-- The well-formedness of a command. -/
def Instr.wellFormed : Instr → Bool
  | .announce f => f.wellFormedOn .train
  | .stopReport f => f.wellFormedOn .train
  | .presence f => f.wellFormedOn .train
  | .releaseReq f => f.wellFormedOn .train
  | .openReq f => f.wellFormedOn .train
  | .closeReq f => f.wellFormedOn .train
  | .trainEmergency f => f.wellFormedOn .train
  | .trainEmergencyEnd f => f.wellFormedOn .train
  | .departNotice f => f.wellFormedOn .train
  | .berthAuthorise f => f.wellFormedOn .interlocking
  | .berthRevoke f => f.wellFormedOn .interlocking
  | .statusPoll f => f.wellFormedOn .interlocking
  | .modeSet f => f.wellFormedOn .station
  | .doorCutout f => f.wellFormedOn .station
  | .doorCutin f => f.wellFormedOn .station
  | .doorReinit f => f.wellFormedOn .station
  | .gapBypass f => f.wellFormedOn .station
  | .forceClose f => f.wellFormedOn .station
  | .partialReleaseAuthorise f => f.wellFormedOn .station
  | .berthClear f => f.wellFormedOn .station
  | .releaseRestore f => f.wellFormedOn .station
  | .restoreAll f => f.wellFormedOn .station
  | .channelRelearn f => f.wellFormedOn .station
  | .readerReset f => f.wellFormedOn .station
  | .attentionClear f => f.wellFormedOn .station
  | .attentionEnable f => f.wellFormedOn .station
  | .timeSet f => f.wellFormedOn .station
  | .statusRead f => f.wellFormedOn .station
  | .recordRead f => f.wellFormedOn .station
  | .berthRead f => f.wellFormedOn .station
  | .channelRead f => f.wellFormedOn .station
  | .configRead f => f.wellFormedOn .station
  | .configWrite f => f.wellFormedOn .station
  | .doorTest f => f.wellFormedOn .station
  | .retainedClear f => f.wellFormedOn .station
  | .restart f => f.wellFormedOn .station
  | .unassignedKindFrame f kind =>
    !Machine.kindAssigned f.link kind && decide (f.payload.length ≤ 240)
  | .invalidFrame _ bytes => (Machine.judge bytes).isNone
  | .localOpen => true
  | .localClose => true
  | .forceCloseButton => true
  | .buttonRelease _ => true
  | .localSwitchEdge _ => true
  | .maintenanceKeyChange _ => true
  | .restoreKeyChange _ => true
  | .perLineAssert => true
  | .perLineDeassert => true
  | .fireLineAssert => true
  | .fireLineDeassert => true
  | .lineTransition _ _ => true
  | .beamBreak _ => true
  | .beamClear _ => true
  | .healthLineDrop _ => true
  | .healthLineRise _ => true
  | .pollSend => true
  | .pollReply _ _ => true
  | .pollMiss _ => true
  | .unlockTimeoutExpiry _ => true
  | .openTimeoutExpiry _ => true
  | .closeTimeoutExpiry _ => true
  | .closeWarningLeadExpiry _ => true
  | .doorwayWaitLimitExpiry _ => true
  | .reopenHoldExpiry _ => true
  | .warningOnExpiry _ => true
  | .warningOffExpiry _ => true
  | .conversionEnd _ _ => true
  | .stopSettleExpiry => true
  | .departureQuietExpiry => true
  | .secureConfirmExpiry => true
  | .trainLinkSupervisionExpiry => true
  | .berthStatusTimerExpiry => true
  | .ilLinkSupervisionExpiry => true
  | .platformStateTimerExpiry => true
  | .stationLinkSupervisionExpiry => true
  | .stationStatusTimerExpiry => true
  | .deviceTimeTick => true
  | .coldStart _ => true
  | .supplyDip _ => true
  | .warmRestart _ => true

end Sys2Proof
end

