-- ==== Sys2Proof/Decode.lean ====
section
/-! DEFINITION. Which command a word spells: no row of spec/opcode_table.json carries bits, so no word spells one.
What the part does read from bytes is a frame on a message link (R176): the command that received bytes are, and the
bytes of a framed command. -/

namespace Sys2Proof

/-- The command a word spells by the table's bits. The table gives no row any bits. -/
def decodeTableWord (_nbits _w : Nat) : Option Instr := none

namespace Machine

/-- The command of a kind that the tables assign to a link (11.1). -/
def kindCommand (kind : Byte) (f : Frame) : Option Instr :=
  match f.link with
  | .train =>
    if kind = 0x10 then some (.announce f) else if kind = 0x11 then some (.stopReport f)
    else if kind = 0x12 then some (.presence f) else if kind = 0x13 then some (.releaseReq f)
    else if kind = 0x14 then some (.openReq f) else if kind = 0x15 then some (.closeReq f)
    else if kind = 0x16 then some (.trainEmergency f) else if kind = 0x17 then some (.trainEmergencyEnd f)
    else if kind = 0x18 then some (.departNotice f) else none
  | .interlocking =>
    if kind = 0x20 then some (.berthAuthorise f) else if kind = 0x21 then some (.berthRevoke f)
    else if kind = 0x22 then some (.statusPoll f) else none
  | .station =>
    if kind = 0x30 then some (.modeSet f) else if kind = 0x31 then some (.doorCutout f)
    else if kind = 0x32 then some (.doorCutin f) else if kind = 0x33 then some (.doorReinit f)
    else if kind = 0x34 then some (.gapBypass f) else if kind = 0x35 then some (.forceClose f)
    else if kind = 0x36 then some (.partialReleaseAuthorise f) else if kind = 0x37 then some (.berthClear f)
    else if kind = 0x38 then some (.releaseRestore f) else if kind = 0x39 then some (.restoreAll f)
    else if kind = 0x3A then some (.channelRelearn f) else if kind = 0x3B then some (.readerReset f)
    else if kind = 0x3C then some (.attentionClear f) else if kind = 0x3D then some (.attentionEnable f)
    else if kind = 0x3E then some (.timeSet f) else if kind = 0x3F then some (.statusRead f)
    else if kind = 0x40 then some (.recordRead f) else if kind = 0x41 then some (.berthRead f)
    else if kind = 0x42 then some (.channelRead f) else if kind = 0x43 then some (.configRead f)
    else if kind = 0x48 then some (.configWrite f) else if kind = 0x49 then some (.doorTest f)
    else if kind = 0x4A then some (.retainedClear f) else if kind = 0x4B then some (.restart f) else none

/-- The command that the bytes received between two idle gaps are (R176): a frame that fails a check, a request of an
assigned kind, or a frame of a kind not assigned to the link. -/
def commandOfBytes (link : Link) (bytes : List Byte) : Instr :=
  match judge bytes with
  | none => .invalidFrame link bytes
  | some r =>
    let f : Frame := ⟨link, r.version, r.seq, r.payload⟩
    (kindCommand r.kind f).getD (.unassignedKindFrame f r.kind)

/-- The kind and frame of a command that is a valid frame. -/
def frameOf : Instr → Option (Byte × Frame)
  | .announce f => some (0x10, f)
  | .stopReport f => some (0x11, f)
  | .presence f => some (0x12, f)
  | .releaseReq f => some (0x13, f)
  | .openReq f => some (0x14, f)
  | .closeReq f => some (0x15, f)
  | .trainEmergency f => some (0x16, f)
  | .trainEmergencyEnd f => some (0x17, f)
  | .departNotice f => some (0x18, f)
  | .berthAuthorise f => some (0x20, f)
  | .berthRevoke f => some (0x21, f)
  | .statusPoll f => some (0x22, f)
  | .modeSet f => some (0x30, f)
  | .doorCutout f => some (0x31, f)
  | .doorCutin f => some (0x32, f)
  | .doorReinit f => some (0x33, f)
  | .gapBypass f => some (0x34, f)
  | .forceClose f => some (0x35, f)
  | .partialReleaseAuthorise f => some (0x36, f)
  | .berthClear f => some (0x37, f)
  | .releaseRestore f => some (0x38, f)
  | .restoreAll f => some (0x39, f)
  | .channelRelearn f => some (0x3A, f)
  | .readerReset f => some (0x3B, f)
  | .attentionClear f => some (0x3C, f)
  | .attentionEnable f => some (0x3D, f)
  | .timeSet f => some (0x3E, f)
  | .statusRead f => some (0x3F, f)
  | .recordRead f => some (0x40, f)
  | .berthRead f => some (0x41, f)
  | .channelRead f => some (0x42, f)
  | .configRead f => some (0x43, f)
  | .configWrite f => some (0x48, f)
  | .doorTest f => some (0x49, f)
  | .retainedClear f => some (0x4A, f)
  | .restart f => some (0x4B, f)
  | .unassignedKindFrame f kind => some (kind, f)
  | _ => none

/-- The link and bytes of a command that is a frame, valid or discarded (11.1). -/
def bytesOfCommand (c : Instr) : Option (Link × List Byte) :=
  match c with
  | .invalidFrame link bytes => some (link, bytes)
  | c => (frameOf c).map fun p => (p.2.link, frameBytes p.2.version p.1 p.2.seq p.2.payload)

end Machine

end Sys2Proof
end

