-- ==== Sys2Proof/Machine/State.lean ====
section
/-! DEFINITION. Every piece of state the spec gives the part, block by block, as plain data; the reasons a step
can stop; and the state after reset. -/

namespace Sys2Proof.Machine

/-- A timer: its remaining time in hundredths of a second while it runs, `none` while it is stopped. -/
abbrev Timer := Option Nat

/-! ## Geometry store (01_platform_geometry_and_formations.md) -/

/-- A door geometry entry (R1). Lengths are whole millimetres. -/
structure DoorGeometry where
  fitted : Bool
  centreX : Nat
  clearWidth : Nat
deriving DecidableEq, Repr

/-- The berth constants entry (R4). -/
structure BerthConstants where
  beamAX : Nat
  beamBX : Nat
  readerAX : Nat
  readerBX : Nat
  readerTrimA : Int
  readerTrimB : Int
  stopMarkAX : Nat
  stopMarkBX : Nat
  crossCheckLimit : Nat
  creepThreshold : Nat
deriving DecidableEq, Repr

/-- The timer settings entry, in hundredths of a second (R6). -/
structure TimerSettings where
  unlockTimeout : Nat
  openTimeout : Nat
  closeTimeout : Nat
  closeWarningLead : Nat
  warningOn : Nat
  warningOff : Nat
  doorwayWaitLimit : Nat
  reopenHold : Nat
  stopSettle : Nat
  secureConfirm : Nat
deriving DecidableEq, Repr

/-- A sensing settings entry (R7). -/
structure SensingEntry where
  enabled : Bool
  threshold : Nat
  nOn : Nat
  nOff : Nat
deriving DecidableEq, Repr

/-- A train door list entry (R8). -/
structure TrainDoor where
  offset : Nat
  carIndex : Nat
deriving DecidableEq, Repr

/-- A formation record (R8). `stepLength` is in tenths of a millimetre. -/
structure Formation where
  valid : Bool
  fleetCode : Nat
  carCount : Nat
  stepLength : Nat
  tolerance : Nat
  partialPermitted : Bool
  trainDoors : List TrainDoor
deriving DecidableEq, Repr

/-- The five tables of the GEO. -/
structure Geo where
  doors : Tab 40 DoorGeometry
  berth : BerthConstants
  timers : TimerSettings
  sensing : Tab 80 SensingEntry
  formations : Tab 24 Formation
deriving DecidableEq, Repr

/-! ## Position readers (02_berth_position_readers.md) -/

/-- Physical direction of the last counted step (R16). -/
inductive LastStep where
  | towards (e : End)
  | none
deriving DecidableEq, Repr

/-- Whether a reader is trusted (R16). -/
inductive ReaderFaultState where
  | normal
  | fault
deriving DecidableEq, Repr

/-- What put a reader into FAULT (R16). -/
inductive ReaderFaultCause where
  | health
  | illegal
  | saturated
deriving DecidableEq, Repr

/-- A reader record (R16) with the level of the reader's health line (R27; `true` is high). -/
structure Reader where
  count : Int
  capture : Int
  captureValid : Bool
  sense : End
  lastStep : LastStep
  lineState : LineState
  edgeSeen : Bool
  directionChange : Bool
  saturated : Bool
  illegalCount : Nat
  faultState : ReaderFaultState
  faultCause : Option ReaderFaultCause
  beam : Beam
  health : Bool
deriving DecidableEq, Repr

/-! ## Berth sequencer (03_berthing_and_door_alignment.md) -/

/-- Berth states (R32), in the order of the table that opens the chapter. -/
inductive BerthState where
  | empty
  | arriving
  | stopped
  | released
  | dispatching
  | departing
  | creep
deriving DecidableEq, Repr

/-- Source of the front position in force (R32). -/
inductive PositionSource where
  | reader
  | trainReport
  | none
deriving DecidableEq, Repr

/-- Alignment outcomes (R32). -/
inductive AlignOutcome where
  | aligned
  | misaligned
  | gross
  | unknown
  | unverified
deriving DecidableEq, Repr

/-- Latest motion stated by the train (R32). -/
inductive TrainMotion where
  | standing
  | moving
deriving DecidableEq, Repr

/-- A pairing list entry (R32, R42). -/
structure PairEntry where
  trainDoor : Nat
  nearest : Option Door
  error : Option Int
  paired : Bool
deriving DecidableEq, Repr

/-- The berth record (R32). -/
structure BerthRecord where
  state : BerthState
  trainId : Option Nat
  protocolVersion : Option Version
  carCount : Option Nat
  formationSlot : Option Slot
  heading : Option End
  positionSource : PositionSource
  measuredFrontX : Option Int
  trainReportedFrontX : Option Int
  trainMotion : Option TrainMotion
  outcome : Option AlignOutcome
  tEff : Option Nat
  pairing : List PairEntry
  worstError : Option Int
  adviceError : Option Int
  authorisation : Option Nat
  partialAuthorised : Bool
  enableSet : DoorSet
  gapWatch : DoorSet
  closeRequested : Bool
  stopCount : Option Int
  linkLost : Bool
  quiet : Bool
  edgeClear : Bool
deriving DecidableEq, Repr

/-! ## Door loop controller (04_door_loop_and_door_records.md) -/

/-- Door record states, in the order of the table that opens the chapter. -/
inductive DoorState where
  | absent
  | init
  | closedLocked
  | unlocking
  | opening
  | opened
  | closeWait
  | closing
  | reopening
  | closeBlocked
  | emergency
  | isolated
  | fault
deriving DecidableEq, Repr

/-- Commands to a door unit (R63). -/
inductive Command where
  | hold
  | unlockOpen
  | closeLock
  | slowCloseLock
  | reopen
deriving DecidableEq, Repr

/-- Why a close is blocked (R67). -/
inductive BlockedCause where
  | obstruction
  | doorway
deriving DecidableEq, Repr

/-- Why a door is in FAULT (R67). -/
inductive DoorFaultCause where
  | unlockTimeout
  | openTimeout
  | closeTimeout
  | adoption
  | motor
  | isolation
  | comms
deriving DecidableEq, Repr

/-- Which state timer runs (R67). -/
inductive StateTimerKind where
  | unlock
  | opening
  | close
  | lead
  | doorwayWait
  | reopenHold
deriving DecidableEq, Repr

/-- The state timer running and its remaining time (R67). -/
structure StateTimer where
  kind : StateTimerKind
  remaining : Nat
deriving DecidableEq, Repr

/-- Phase of the warning cadence (R67, R82). -/
inductive WarningPhase where
  | none
  | on
  | off
deriving DecidableEq, Repr

/-- A door record (R67) with the phase timer of its warning cadence (R83). -/
structure DoorRecord where
  state : DoorState
  cutOut : Bool
  gapBypass : Bool
  reopenCount : Nat
  slowClose : Bool
  closePending : Bool
  blockedCause : Option BlockedCause
  faultCause : Option DoorFaultCause
  missCount : Nat
  lastReport : Option Report
  command : Option Command
  stateTimer : Option StateTimer
  warningPhase : WarningPhase
  warningTimer : Timer
deriving DecidableEq, Repr

/-- The start-up survey (R85). -/
inductive Survey where
  | running
  | complete
deriving DecidableEq, Repr

/-- The door loop controller: the door table, the change marks (R84), the survey (R85), what the RLM last told it
about a PER or FIRE release (R69), and the place of the poll cycle (R62): the address polled last, and whether
its reply is awaited. -/
structure Dlc where
  doors : Tab 40 DoorRecord
  marks : Tab 5 Bool
  survey : Survey
  releaseInForce : Bool
  lastPolled : Option Door
  awaitingReply : Bool
deriving DecidableEq, Repr

/-! ## Sensing scanner (05_passenger_sensing.md) -/

/-- Channel states. -/
inductive ChannelState where
  | off
  | settling
  | learning
  | active
  | fault
deriving DecidableEq, Repr

/-- The fields of a channel record that are the SSC's own (R87). -/
structure ChannelRecord where
  state : ChannelState
  baseline : Int
  learnSum : Nat
  learnCount : Nat
  consecutive : Nat
  occupied : Bool
  railCount : Nat
  lastSample : Option Sample
  tracking : Bool
deriving DecidableEq, Repr

/-- The sensing scanner: the channel table, the tracking inputs as the BSQ and DLC last handed them (R90), and the
place of the scan (R88): the channel converted last, and the channel whose conversion is in flight. -/
structure Ssc where
  channels : Tab 80 ChannelRecord
  berthView : BerthState
  doorViews : Tab 40 DoorState
  lastConverted : Option Channel
  inFlight : Option Channel
deriving DecidableEq, Repr

/-! ## Release monitor (06_emergency_release_and_the_retained_release_list.md) -/

/-- Source of a release together with its door or car: the identity of a release record (R107, R108). -/
inductive ReleaseSource where
  | handle (d : Door)
  | per
  | fire
  | train (car : Nat)
  | powerOn
deriving DecidableEq, Repr

/-- Release record states. -/
inductive ReleaseState where
  | active
  | cleared
deriving DecidableEq, Repr

/-- A release record (R107). -/
structure ReleaseRecord where
  number : Nat
  source : ReleaseSource
  trainId : Option Nat
  state : ReleaseState
  firstTime : Nat
  lastTime : Nat
  occurrences : Nat
deriving DecidableEq, Repr

/-- Cause of the latest start (R106). -/
inductive RestartCause where
  | powerOn
  | stationRestart
  | supplyDip
deriving DecidableEq, Repr

/-- The release monitor: the retained memory of R106, the levels of the PER and FIRE lines it reads (R118, R125),
and the time left to the next second of device time. -/
structure Rlm where
  list : List ReleaseRecord
  overflow : Bool
  lastCause : RestartCause
  warmCount : Nat
  deviceTime : Nat
  secondTimer : Nat
  perLine : Bool
  fireLine : Bool
deriving DecidableEq, Repr

/-! ## Secure logic (07_platform_secure.md) -/

/-- Platform modes (R138). -/
inductive PlatformMode where
  | automatic
  | localMode
  | maintenance
  | fire
deriving DecidableEq, Repr

/-- The gap view of one channel (R127). -/
inductive GapView where
  | clear
  | occupied
  | notActive
deriving DecidableEq, Repr

/-- The secure cause set (R127), one flag per cause in the order of the chapter's table. -/
structure CauseSet where
  doors : Bool
  release : Bool
  gap : Bool
  mode : Bool
  survey : Bool
  creep : Bool
deriving DecidableEq, Repr

/-- The SCL's input record (R127). -/
structure SclInput where
  doorStates : Tab 40 DoorState
  bypasses : Tab 40 Bool
  gaps : Tab 40 GapView
  gapWatch : DoorSet
  berthState : BerthState
  releaseHeld : Bool
  mode : PlatformMode
  survey : Survey
deriving DecidableEq, Repr

/-- The secure logic (R127). -/
structure Scl where
  input : SclInput
  causes : CauseSet
  confirm : Timer
  secure : Bool
  permit : Bool
deriving DecidableEq, Repr

/-! ## Mode and authority control (08_operating_modes_authority_and_the_console.md) -/

/-- Result codes (R178). -/
inductive ResultCode where
  | done
  | refusedAuthority
  | refusedMode
  | refusedState
  | refusedRange
  | refusedKey
  | refusedId
  | refusedAlignment
  | refusedUnsupported
deriving DecidableEq, Repr

/-- Why a door test was aborted (R138, R150). -/
inductive AbortCause where
  | mode
  | berth
  | opened
  | doorState (st : DoorState)
deriving DecidableEq, Repr

/-- How a door test stands (R138). -/
inductive TestState where
  | running
  | passed
  | aborted
deriving DecidableEq, Repr

/-- The test record (R138). -/
structure TestRecord where
  door : Door
  state : TestState
  abortCause : Option AbortCause
deriving DecidableEq, Repr

/-- The last console refusal (R138). -/
structure ConsoleRefusal where
  button : Button
  code : ResultCode
  time : Nat
deriving DecidableEq, Repr

/-- The MAC record (R138). -/
structure Mac where
  mode : PlatformMode
  localSwitch : SwitchPosition
  maintenanceKey : Bool
  restoreKey : Bool
  fireLine : Bool
  localOpenPressed : Bool
  localClosePressed : Bool
  forceClosePressed : Bool
  berthView : BerthState
  test : Option TestRecord
  lastRefusal : Option ConsoleRefusal
  refusalCount : Nat
deriving DecidableEq, Repr

/-! ## Link ports (09_train_link.md, 10_interlocking_and_station_links.md) -/

/-- State of a link (R153). -/
inductive LinkState where
  | up
  | lost
deriving DecidableEq, Repr

/-- State of the train session (R153). -/
inductive SessionState where
  | none
  | opened
deriving DecidableEq, Repr

/-- Mark of a train door in a door summary (R50). -/
inductive DoorMark where
  | served
  | unservedCutout
  | unservedFault
  | unpaired
deriving DecidableEq, Repr

/-- One train door of a door summary (R163). -/
structure SummaryEntry where
  trainDoor : Nat
  mark : DoorMark
  paired : Option Door
deriving DecidableEq, Repr

/-- The report values of the TLP (R161). -/
structure TrainValues where
  berthState : BerthState
  heading : Option End
  outcome : Option AlignOutcome
  positionSource : PositionSource
  tEff : Option Nat
  worstError : Option Int
  adviceError : Option Int
  secure : Bool
  permit : Bool
deriving DecidableEq, Repr

/-- The TLP record (R153), with the port's report sequence (R176). -/
structure Tlp where
  link : LinkState
  supervision : Timer
  session : SessionState
  sessionVersion : Option Version
  sessionTrainId : Option Nat
  statusTimer : Timer
  values : TrainValues
  heldSummary : Option (List SummaryEntry)
  reportSeq : Byte
deriving DecidableEq, Repr

/-- The report values of the ILP (R165). -/
structure IlValues where
  secure : Bool
  permit : Bool
  causes : CauseSet
  berthState : BerthState
  trainId : Option Nat
  emergencyActive : Bool
  creepAlarm : Bool
deriving DecidableEq, Repr

/-- The ILP record (R165), with the port's report sequence (R176). -/
structure Ilp where
  link : LinkState
  supervision : Timer
  reportTimer : Timer
  values : IlValues
  reportSeq : Byte
deriving DecidableEq, Repr

/-- Attention flags, in the order of the table of R172. -/
inductive AttentionFlag where
  | readerAFault
  | readerBFault
  | trainLinkLost
  | ilLinkLost
  | doorFault
  | closeBlocked
  | sensingFault
  | releaseNew
  | creep
  | overflow
deriving DecidableEq, Repr

/-- The place of a flag in the table of R172. -/
def AttentionFlag.index : AttentionFlag → Fin 10
  | .readerAFault => 0
  | .readerBFault => 1
  | .trainLinkLost => 2
  | .ilLinkLost => 3
  | .doorFault => 4
  | .closeBlocked => 5
  | .sensingFault => 6
  | .releaseNew => 7
  | .creep => 8
  | .overflow => 9

/-- The report values of STATION_STATUS other than the flags and enables (R173). -/
structure StationValues where
  secure : Bool
  causes : CauseSet
  permit : Bool
  berthState : BerthState
  trainId : Option Nat
  outcome : Option AlignOutcome
  mode : PlatformMode
  localSwitch : SwitchPosition
  maintenanceKey : Bool
  restoreKey : Bool
  test : Option TestRecord
  lastRefusal : Option ConsoleRefusal
  refusalCount : Nat
  trainLink : LinkState
  session : SessionState
  sessionVersion : Option Version
  sessionTrainId : Option Nat
  ilLink : LinkState
  marks : Tab 5 Bool
  survey : Survey
deriving DecidableEq, Repr

/-- The SLP record (R170), with the port's report sequence (R176). -/
structure Slp where
  link : LinkState
  supervision : Timer
  statusTimer : Timer
  flags : Tab 10 Bool
  enables : Tab 10 Bool
  values : StationValues
  reportSeq : Byte
deriving DecidableEq, Repr

/-! ## What the part sends -/

/-- Detail of a REPLY (R177). -/
inductive Detail where
  | none
  | slot (k : Slot)
  | door (d : Door)
  | field (position : Nat)
  | health
  | doorway
deriving DecidableEq, Repr

/-- One door of the platform view as STATUS_READ returns it (R84). -/
structure DoorStatus where
  state : DoorState
  cutOut : Bool
  gapBypass : Bool
  reopenCount : Nat
  slowClose : Bool
  blockedCause : Option BlockedCause
  faultCause : Option DoorFaultCause
  missCount : Nat
  lastReport : Option Report
deriving DecidableEq, Repr

/-- The record a taken read returns (R177). -/
inductive ReadRecord where
  | status (doors : Tab 40 DoorStatus) (marks : Tab 5 Bool) (survey : Survey)
  | releases (list : List ReleaseRecord) (overflow : Bool) (cause : RestartCause) (warmCount : Nat) (deviceTime : Nat)
  | berth (record : BerthRecord) (readerA readerB : Reader)
  | channel (c : Channel) (setting : SensingEntry) (record : ChannelRecord)
  | doorGeometry (d : Door) (entry : DoorGeometry)
  | berthConstants (entry : BerthConstants)
  | timers (entry : TimerSettings)
  | sensing (c : Channel) (entry : SensingEntry)
  | formation (k : Slot) (entry : Formation)
deriving DecidableEq, Repr

/-- A REPLY (R177, R178). -/
structure Reply where
  kind : Byte
  result : ResultCode
  detail : Detail
  record : Option ReadRecord
deriving DecidableEq, Repr

/-- Mark of a train door as sent: SERVED or UNSERVED on a version 1 session, the full mark on a version 2 session
(R163). -/
inductive SentMark where
  | v1 (served : Bool)
  | v2 (mark : DoorMark)
deriving DecidableEq, Repr

/-- One train door of a DOOR_SUMMARY as sent (R163). -/
structure SentSummaryEntry where
  trainDoor : Nat
  mark : SentMark
  paired : Option Door
deriving DecidableEq, Repr

/-- The messages the part sends on its links (11.1). -/
inductive Message where
  | reply (r : Reply)
  | berthStatus (trainId : Option Nat) (values : TrainValues)
  | doorSummary (trainId : Option Nat) (doors : List SentSummaryEntry)
  | platformState (values : IlValues)
  | stationStatus (flags enables : Tab 10 Bool) (values : StationValues)
deriving DecidableEq, Repr

/-- What leaves the part: a frame on a link, with its version and sequence (R176), or a poll on the door loop, with
the command (absent in a status poll) and the lamp bit (R62). -/
inductive Output where
  | frame (link : Link) (version : Version) (seq : Byte) (message : Message)
  | poll (d : Door) (command : Option Command) (lamp : Bool)
deriving DecidableEq, Repr

/-! ## The whole part -/

/-- The state of the part. Five fields are the MODEL's own: `checkOwed` (the settle check that
meets a step taken before it, assumption 29), `sent` (what the latest command sent, in order),
`summaryDue` (a door summary was handed to the TLP in the latest command), `restartDue` (a RESTART has been taken
and its warm restart has not begun) and `pending` (the commands waiting, first in, first out). -/
structure State where
  geo : Geo
  /-- The persistent store (R12). -/
  store : Geo
  readerA : Reader
  readerB : Reader
  berth : BerthRecord
  /-- The stop settle time (R37, R56). -/
  stopSettle : Timer
  /-- The reader at which a settle check is still owed, a step of it having been taken first (R21). -/
  checkOwed : Option End
  /-- The departure quiet time (R58). -/
  departureQuiet : Timer
  dlc : Dlc
  ssc : Ssc
  rlm : Rlm
  scl : Scl
  mac : Mac
  tlp : Tlp
  ilp : Ilp
  slp : Slp
  sent : List Output
  summaryDue : Bool
  restartDue : Bool
  pending : List Instr
deriving DecidableEq, Repr

/-- The faults of the part. There is none: no rule of the spec stops the part, so no step answers a fault. -/
inductive Fault where
deriving DecidableEq, Repr

/-- The refusals of the MODEL (not the part's REFUSED_ results, which are ordinary next states). -/
inductive Refusal where
  /-- Raised by `exec` for a command that has no meaning yet; no arm raises it now. Safe: the run stops. -/
  | notModelled (mnemonic : String)
deriving DecidableEq, Repr

/-! ## Reset -/

/-- Factory state of a door geometry entry (R1). -/
def DoorGeometry.factory : DoorGeometry := ⟨false, 0, 1200⟩

/-- Factory values of the berth constants (R4). -/
def BerthConstants.factory : BerthConstants :=
  ⟨5000, 195000, 6000, 194000, 0, 0, 5000, 195000, 250, 2⟩

/-- Factory values of the timer settings (R6). -/
def TimerSettings.factory : TimerSettings := ⟨100, 400, 500, 200, 30, 30, 800, 150, 150, 50⟩

/-- Factory values of a sensing entry (R7). -/
def SensingEntry.factory : SensingEntry := ⟨false, 40, 3, 3⟩

/-- Factory values of a formation record (R8). -/
def Formation.factory : Formation := ⟨false, 1, 1, 100, 50, false, []⟩

/-- The factory state of the persistent store. -/
def Geo.factory : Geo where
  doors := Tab.fill 40 DoorGeometry.factory
  berth := BerthConstants.factory
  timers := TimerSettings.factory
  sensing := Tab.fill 80 SensingEntry.factory
  formations := Tab.fill 24 Formation.factory

/-- A reader as a start leaves it (R31), its health line high, its beam CLEAR and both its lines low; its default
sense points towards its own end (R18). -/
def Reader.reset (e : End) : Reader where
  count := 0
  capture := 0
  captureValid := false
  sense := e
  lastStep := .none
  lineState := 0
  edgeSeen := false
  directionChange := false
  saturated := false
  illegalCount := 0
  faultState := .normal
  faultCause := none
  beam := .clear
  health := true

/-- The berth record at EMPTY entry (R59), which is also its value after each reset (R61). -/
def BerthRecord.atEmpty : BerthRecord where
  state := .empty
  trainId := none
  protocolVersion := none
  carCount := none
  formationSlot := none
  heading := none
  positionSource := .none
  measuredFrontX := none
  trainReportedFrontX := none
  trainMotion := none
  outcome := none
  tEff := none
  pairing := []
  worstError := none
  adviceError := none
  authorisation := none
  partialAuthorised := false
  enableSet := DoorSet.empty
  gapWatch := DoorSet.empty
  closeRequested := false
  stopCount := none
  linkLost := false
  quiet := false
  edgeClear := false

/-- A door record at cold start (R86): INIT with status polls if fitted, ABSENT with HOLD otherwise. -/
def DoorRecord.cold (fitted : Bool) : DoorRecord where
  state := if fitted then .init else .absent
  cutOut := false
  gapBypass := false
  reopenCount := 0
  slowClose := false
  closePending := false
  blockedCause := none
  faultCause := none
  missCount := 0
  lastReport := none
  command := if fitted then none else some .hold
  stateTimer := none
  warningPhase := .none
  warningTimer := none

/-- A channel record after each reset (R105): SETTLING if its setting is enabled and its door fitted, OFF otherwise. -/
def ChannelRecord.start (inService : Bool) : ChannelRecord where
  state := if inService then .settling else .off
  baseline := 0
  learnSum := 0
  learnCount := 0
  consecutive := 0
  occupied := false
  railCount := 0
  lastSample := none
  tracking := false

/-- The POWER_ON record of a cold start (R125). -/
def ReleaseRecord.atPowerOn : ReleaseRecord := ⟨1, .powerOn, none, .cleared, 0, 0, 1⟩

/-- The causes that stand once a cold start of an unfitted platform is over: RELEASE alone (R137). -/
def CauseSet.atReset : CauseSet := ⟨false, true, false, false, false, false⟩

/-- The machine right after reset: a cold start of a part whose persistent store is in its factory state, with
every input at rest (assumption 1). With no fitted door the survey is COMPLETE at once (R85). -/
def State.reset : State where
  geo := Geo.factory
  store := Geo.factory
  readerA := Reader.reset .a
  readerB := Reader.reset .b
  berth := BerthRecord.atEmpty
  stopSettle := none
  checkOwed := none
  departureQuiet := none
  dlc :=
    { doors := Tab.fill 40 (DoorRecord.cold false)
      marks := Tab.fill 5 true
      survey := .complete
      releaseInForce := false
      lastPolled := none
      awaitingReply := false }
  ssc :=
    { channels := Tab.fill 80 (ChannelRecord.start false)
      berthView := .empty
      doorViews := Tab.fill 40 .absent
      lastConverted := none
      inFlight := none }
  rlm :=
    { list := [ReleaseRecord.atPowerOn]
      overflow := false
      lastCause := .powerOn
      warmCount := 0
      deviceTime := 0
      secondTimer := Config.second
      perLine := false
      fireLine := false }
  scl :=
    { input :=
        { doorStates := Tab.fill 40 .absent
          bypasses := Tab.fill 40 false
          gaps := Tab.fill 40 .notActive
          gapWatch := DoorSet.empty
          berthState := .empty
          releaseHeld := true
          mode := .localMode
          survey := .complete }
      causes := CauseSet.atReset
      confirm := none
      secure := false
      permit := false }
  mac :=
    { mode := .localMode
      localSwitch := .atLocal
      maintenanceKey := false
      restoreKey := false
      fireLine := false
      localOpenPressed := false
      localClosePressed := false
      forceClosePressed := false
      berthView := .empty
      test := none
      lastRefusal := none
      refusalCount := 0 }
  tlp :=
    { link := .up
      supervision := some Config.trainSupervision
      session := .none
      sessionVersion := none
      sessionTrainId := none
      statusTimer := none
      values := ⟨.empty, none, none, .none, none, none, none, false, false⟩
      heldSummary := none
      reportSeq := 0 }
  ilp :=
    { link := .up
      supervision := some Config.interlockingSupervision
      reportTimer := some Config.platformStatePeriod
      values := ⟨false, false, CauseSet.atReset, .empty, none, false, false⟩
      reportSeq := 0 }
  slp :=
    { link := .up
      supervision := some Config.stationSupervision
      statusTimer := some Config.stationStatusPeriod
      flags := Tab.fill 10 false
      enables := Tab.fill 10 true
      values :=
        { secure := false
          causes := CauseSet.atReset
          permit := false
          berthState := .empty
          trainId := none
          outcome := none
          mode := .localMode
          localSwitch := .atLocal
          maintenanceKey := false
          restoreKey := false
          test := none
          lastRefusal := none
          refusalCount := 0
          trainLink := .up
          session := .none
          sessionVersion := none
          sessionTrainId := none
          ilLink := .up
          marks := Tab.fill 5 true
          survey := .complete }
      reportSeq := 0 }
  sent := []
  summaryDue := false
  restartDue := false
  pending := []

end Sys2Proof.Machine
end

