-- ==== Sys2Proof/Machine/Ops.lean ====
section
/-! DEFINITION. The named reads and writes of the state that every block uses, the numbers of the spec for
positions held as indices, and the outgoing ports. -/

namespace Sys2Proof.Machine

/-! ## Numbers of the spec -/

/-- Platform door number of a position. -/
def doorNumber (d : Door) : Nat := d.val + 1

/-- Channel number of a channel index (R7). -/
def channelNumber (c : Channel) : Nat := c.val + 1

/-- Slot number of a slot index (R8). -/
def slotNumber (k : Slot) : Nat := k.val + 1

/-- The channel GAP_k of door `k` (R7). -/
def gapChannel (d : Door) : Channel := ⟨d.val, by omega⟩

/-- The channel DOORWAY_k of door `k` (R7). -/
def doorwayChannel (d : Door) : Channel := ⟨40 + d.val, by omega⟩

/-- The door a channel belongs to (R7). -/
def channelDoor (c : Channel) : Door := ⟨c.val % 40, Nat.mod_lt _ (by decide)⟩

/-- Whether a channel is a GAP channel (R7). -/
def isGap (c : Channel) : Bool := decide (c.val < 40)

/-- The change mark group of a door (R84). -/
def doorGroup (d : Door) : Fin 5 := ⟨d.val / 8, by omega⟩

/-! ## Readers -/

/-- The reader at an end. -/
def readerAt (s : State) : End → Reader
  | .a => s.readerA
  | .b => s.readerB

/-- The state with the reader at an end replaced. -/
def setReader (s : State) (e : End) (r : Reader) : State :=
  match e with
  | .a => { s with readerA := r }
  | .b => { s with readerB := r }

/-- The measuring reader of the occupancy (R29), if a heading is held. -/
def measuring (s : State) : Option End := s.berth.heading

/-! ## Doors and channels -/

/-- The door record of a position. -/
def doorAt (s : State) (d : Door) : DoorRecord := s.dlc.doors.get d

/-- The state with one door record replaced. -/
def putDoor (s : State) (d : Door) (r : DoorRecord) : State :=
  { s with dlc := { s.dlc with doors := s.dlc.doors.set d r } }

/-- Whether a position is fitted (R1). -/
def fitted (s : State) (d : Door) : Bool := (s.geo.doors.get d).fitted

/-- The channel record of a channel. -/
def channelAt (s : State) (c : Channel) : ChannelRecord := s.ssc.channels.get c

/-- The state with one channel record replaced. -/
def putChannel (s : State) (c : Channel) (r : ChannelRecord) : State :=
  { s with ssc := { s.ssc with channels := s.ssc.channels.set c r } }

/-- The formation of the berth record's slot, if a slot is held. -/
def berthFormation (s : State) : Option Formation :=
  s.berth.formationSlot.map fun k => s.geo.formations.get k

/-- Whether a train session is open (R153). -/
def sessionOpen (s : State) : Bool := s.tlp.session == .opened

/-! ## Timers -/

/-- Whether a running timer has run out: only then is its expiry an event (assumption 8). -/
def due : Timer → Bool
  | some 0 => true
  | _ => false

/-- The stop settle time started, with no settle check owed (R37). -/
def startSettle (s : State) : State :=
  { s with stopSettle := some s.geo.timers.stopSettle, checkOwed := none }

/-- The stop settle time stopped, with no settle check owed. -/
def stopSettleTime (s : State) : State := { s with stopSettle := none, checkOwed := none }

/-- The departure quiet time started (R58). -/
def startQuiet (s : State) : State :=
  { s with departureQuiet := some Config.departureQuiet }

/-! ## What leaves the part -/

/-- The state at the start of a command: nothing sent yet (model's own fields). -/
def fresh (s : State) : State := { s with sent := [], summaryDue := false }

/-- One more output, after those already sent. -/
def send (o : Output) (s : State) : State := { s with sent := s.sent ++ [o] }

/-- A REPLY goes on the link that carried the request, with its version and sequence (R176). -/
def sendReply (f : Frame) (r : Reply) (s : State) : State :=
  send (.frame f.link f.version f.seq (.reply r)) s

/-- A train report carries the session version and the port's report sequence (R176). -/
def sendTrainReport (m : Message) (s : State) : State :=
  let s' := send (.frame .train (s.tlp.sessionVersion.getD .v2) s.tlp.reportSeq m) s
  { s' with tlp := { s'.tlp with reportSeq := s'.tlp.reportSeq + 1 } }

/-- An interlocking report carries version 2 and the port's report sequence (R176). -/
def sendIlReport (m : Message) (s : State) : State :=
  let s' := send (.frame .interlocking .v2 s.ilp.reportSeq m) s
  { s' with ilp := { s'.ilp with reportSeq := s'.ilp.reportSeq + 1 } }

/-- A station report carries version 2 and the port's report sequence (R176). -/
def sendStationReport (m : Message) (s : State) : State :=
  let s' := send (.frame .station .v2 s.slp.reportSeq m) s
  { s' with slp := { s'.slp with reportSeq := s'.slp.reportSeq + 1 } }

/-- A valid frame makes its link UP and restarts the port's supervision, whatever its kind and result
(R154, R166, R170). -/
def receive (link : Link) (s : State) : State :=
  match link with
  | .train => { s with tlp := { s.tlp with link := .up, supervision := some Config.trainSupervision } }
  | .interlocking =>
    { s with ilp := { s.ilp with link := .up, supervision := some Config.interlockingSupervision } }
  | .station => { s with slp := { s.slp with link := .up, supervision := some Config.stationSupervision } }

/-! ## Frames waiting at a start -/

/-- Whether a command is a frame that has arrived on a link. -/
def isLinkFrame : Instr → Bool
  | .announce _ | .stopReport _ | .presence _ | .releaseReq _ | .openReq _ | .closeReq _ | .trainEmergency _
  | .trainEmergencyEnd _ | .departNotice _ | .berthAuthorise _ | .berthRevoke _ | .statusPoll _ | .modeSet _
  | .doorCutout _ | .doorCutin _ | .doorReinit _ | .gapBypass _ | .forceClose _ | .partialReleaseAuthorise _
  | .berthClear _ | .releaseRestore _ | .restoreAll _ | .channelRelearn _ | .readerReset _ | .attentionClear _
  | .attentionEnable _ | .timeSet _ | .statusRead _ | .recordRead _ | .berthRead _ | .channelRead _ | .configRead _
  | .configWrite _ | .doorTest _ | .retainedClear _ | .restart _ | .unassignedKindFrame _ _ | .invalidFrame _ _ => true
  | .localOpen | .localClose | .forceCloseButton | .buttonRelease _ | .localSwitchEdge _ | .maintenanceKeyChange _
  | .restoreKeyChange _ | .perLineAssert | .perLineDeassert | .fireLineAssert | .fireLineDeassert
  | .lineTransition _ _ | .beamBreak _ | .beamClear _ | .healthLineDrop _ | .healthLineRise _ | .pollSend
  | .pollReply _ _ | .pollMiss _ | .unlockTimeoutExpiry _ | .openTimeoutExpiry _ | .closeTimeoutExpiry _
  | .closeWarningLeadExpiry _ | .doorwayWaitLimitExpiry _ | .reopenHoldExpiry _ | .warningOnExpiry _
  | .warningOffExpiry _ | .conversionEnd _ _ | .stopSettleExpiry | .departureQuietExpiry | .secureConfirmExpiry
  | .trainLinkSupervisionExpiry | .berthStatusTimerExpiry | .ilLinkSupervisionExpiry | .platformStateTimerExpiry
  | .stationLinkSupervisionExpiry | .stationStatusTimerExpiry | .deviceTimeTick | .coldStart _ | .supplyDip _
  | .warmRestart _ => false

/-- The commands that wait through a start: a frame that has arrived and has not been taken when the start begins is
discarded without reply (R174, assumption 7). -/
def withoutFrames (l : List Instr) : List Instr := l.filter fun c => !isLinkFrame c

/-! ## Going round the positions (R62, R88) -/

/-- The next live position after the one given, in ascending order and round to the lowest; the lowest where none is
given. -/
def nextRound {n : Nat} (live : Fin n → Bool) (last : Option (Fin n)) : Option (Fin n) :=
  let l := (List.finRange n).filter live
  match last with
  | none => l.head?
  | some p =>
    match l.filter fun c => decide (p < c) with
    | c :: _ => some c
    | [] => l.head?

/-- The channel converted after the one given: the next one not in OFF (R88). -/
def nextLive (t : Tab 80 ChannelRecord) (last : Option Channel) : Option Channel :=
  nextRound (fun c => (t.get c).state != .off) last

/-! ## Folding over doors -/

/-- An operation carried out at each door of a list, in the list's order. -/
def forDoors (l : List Door) (op : Door → State → State) (s : State) : State :=
  l.foldl (fun s d => op d s) s

end Sys2Proof.Machine
end

