-- ==== Sys2Proof/Machine/Operands.lean ====
section
/-! DEFINITION. The payload layouts of the requests (11.2): how the bytes of a payload are read as the fields of its
kind, or found not to fit (`none`, refused REFUSED_RANGE). -/

namespace Sys2Proof.Machine

/-- A whole number, big-endian (R177). -/
def beNat (bs : List Byte) : Nat := bs.foldl (fun n b => n * 256 + b.toNat) 0

/-- A two's complement number, big-endian (R177). -/
def beInt (bs : List Byte) : Int :=
  let n := beNat bs
  if 2 * n < 256 ^ bs.length then n else (n : Int) - (256 ^ bs.length : Nat)

/-- A yes or no field (R177). -/
def yesNo (b : Byte) : Option Bool :=
  if b = 0 then some false else if b = 1 then some true else none

/-- A heading field: A is 1 and B is 2 (R177). READER_RESET's reader field is coded the same way. -/
def endCode (b : Byte) : Option End :=
  if b = 1 then some .a else if b = 2 then some .b else none

/-- The value if it lies in a range. -/
def inRange (lo hi n : Nat) : Option Nat := if lo ≤ n ∧ n ≤ hi then some n else none

/-- A payload of no bytes. -/
def formNone (p : List Byte) : Option Unit := if p = [] then some () else none

/-- A payload of one byte. -/
def formByte : List Byte → Option Nat
  | [b] => some b.toNat
  | _ => none

/-! ## Train link (R156, R158, R159) -/

/-- How an ANNOUNCE names its formation: a formation number (version 1) or a fleet code (version 2). -/
inductive FormationKey where
  | number (n : Nat)
  | fleet (code : Nat)
deriving DecidableEq, Repr

/-- The fields of an ANNOUNCE (R156). -/
structure Announce where
  trainId : Nat
  version : Version
  key : FormationKey
  carCount : Nat
  heading : End
deriving DecidableEq, Repr

/-- The layout of ANNOUNCE, by the version in the frame header, with the ranges of R156. -/
def formAnnounce (v : Version) (p : List Byte) : Option Announce :=
  match v, p with
  | .v1, [t1, t2, n, c, h] => do
    let id ← inRange 1 65535 (beNat [t1, t2])
    let num ← inRange 1 15 n.toNat
    let cars ← inRange 1 8 c.toNat
    let e ← endCode h
    pure ⟨id, .v1, .number num, cars, e⟩
  | .v2, [t1, t2, f1, f2, c, h] => do
    let id ← inRange 1 65535 (beNat [t1, t2])
    let code ← inRange 1 65535 (beNat [f1, f2])
    let cars ← inRange 1 8 c.toNat
    let e ← endCode h
    pure ⟨id, .v2, .fleet code, cars, e⟩
  | _, _ => none

/-- The fields of a STOP_REPORT (R158); the offset's range is the BSQ's to check (R36). -/
structure StopReport where
  stopped : Bool
  moving : Bool
  offset : Int
deriving DecidableEq, Repr

/-- The layout of STOP_REPORT. -/
def formStopReport (_ : Version) : List Byte → Option StopReport
  | [st, mv, o1, o2] => do
    let stopped ← yesNo st
    let moving ← yesNo mv
    pure ⟨stopped, moving, beInt [o1, o2]⟩
  | _ => none

/-- The fields of a PRESENCE (R158). -/
structure Presence where
  stopped : Bool
  moving : Bool
deriving DecidableEq, Repr

/-- The layout of PRESENCE. -/
def formPresence (_ : Version) : List Byte → Option Presence
  | [st, mv] => do
    let stopped ← yesNo st
    let moving ← yesNo mv
    pure ⟨stopped, moving⟩
  | _ => none

/-- The layout of a train request without payload. -/
def formEmpty (_ : Version) (p : List Byte) : Option Unit := formNone p

/-- The layout of OPEN_REQ (R158): a version 1 request has no payload and stands for the whole enable set, as an
empty car list does. -/
def formOpenReq (v : Version) (p : List Byte) : Option (List Nat) :=
  match v, p with
  | .v1, [] => some []
  | .v2, n :: cars =>
    if n.toNat = cars.length ∧ n.toNat ≤ 8 ∧ cars.all (fun c => decide (1 ≤ c.toNat ∧ c.toNat ≤ 8)) then
      some (cars.map fun c => c.toNat)
    else none
  | _, _ => none

/-- The layout of TRAIN_EMERGENCY (R159): a version 1 request is taken as car 0 (R113). -/
def formTrainEmergency (v : Version) (p : List Byte) : Option Nat :=
  match v, p with
  | .v1, [] => some 0
  | .v2, [c] => inRange 0 8 c.toNat
  | _, _ => none

/-! ## Interlocking link (R167) -/

/-- The layout of BERTH_AUTHORISE; train id 0 is the BSQ's to refuse (R47). -/
def formTrainId : List Byte → Option Nat
  | [t1, t2] => some (beNat [t1, t2])
  | _ => none

/-! ## Station link -/

/-- The layout of MODE_SET: the mode as an enumeration in the order of R138's record. -/
def formMode : List Byte → Option PlatformMode
  | [b] =>
    if b = 1 then some .automatic else if b = 2 then some .localMode
    else if b = 3 then some .maintenance else if b = 4 then some .fire else none
  | _ => none

/-- The layout of RELEASE_RESTORE: a record number, 1 to 255 (R107). -/
def formRecordNumber : List Byte → Option Nat
  | [b] => inRange 1 255 b.toNat
  | _ => none

/-- The layout of READER_RESET: a reader as an enumeration, A then B. -/
def formReader : List Byte → Option End
  | [b] => endCode b
  | _ => none

/-- The layout of ATTENTION_CLEAR and ATTENTION_ENABLE: a set of flags in two bytes, in the order of R172's table.
A bit beyond the tenth names a flag not in the table. -/
def formFlagMask : List Byte → Option (Tab 10 Bool)
  | [b0, b1] =>
    if b1.toNat < 4 then
      some (Tab.ofFn fun i => if i.val < 8 then b0.getLsbD i.val else b1.getLsbD (i.val - 8))
    else none
  | _ => none

/-- The layout of STATUS_READ: a clear mask of the five change mark groups, one byte. -/
def formMarkMask : List Byte → Option (Tab 5 Bool)
  | [b] => if b.toNat < 32 then some (Tab.ofFn fun i => b.getLsbD i.val) else none
  | _ => none

/-- The layout of TIME_SET: a device time in four bytes. -/
def formTime (p : List Byte) : Option Nat := if p.length = 4 then some (beNat p) else none

/-- The layout of CONFIG_READ: the table and the entry number; both are the GEO's to judge (R12). -/
def formConfigRead : List Byte → Option (Nat × Nat)
  | [t, e] => some (t.toNat, e.toNat)
  | _ => none

/-! ## CONFIG_WRITE (R11, R177) -/

/-- How one scalar field of a configuration table is carried: its width in bytes, whether it is signed, and its
range. -/
structure FieldSpec where
  bytes : Nat
  signed : Bool
  lo : Int
  hi : Int
deriving DecidableEq, Repr

/-- The scalar fields of each table, by the table's code, in the order of R1, R4, R6, R7 and R8. The train door
list, seventh field of FORMATION, is read apart. -/
def fieldSpecs (table : Nat) : List FieldSpec :=
  match table with
  | 1 => [⟨1, false, 0, 1⟩, ⟨4, false, 0, 199999⟩, ⟨2, false, 1200, 2400⟩]
  | 2 =>
    [⟨4, false, 2500, 199999⟩, ⟨4, false, 0, 197499⟩, ⟨4, false, 0, 199999⟩, ⟨4, false, 0, 199999⟩,
     ⟨4, true, -50, 50⟩, ⟨4, true, -50, 50⟩, ⟨4, false, 0, 199999⟩, ⟨4, false, 0, 199999⟩,
     ⟨2, false, 50, 1000⟩, ⟨1, false, 1, 10⟩]
  | 3 =>
    [⟨2, false, 20, 500⟩, ⟨2, false, 100, 1000⟩, ⟨2, false, 100, 1000⟩, ⟨2, false, 50, 500⟩,
     ⟨1, false, 5, 100⟩, ⟨1, false, 5, 100⟩, ⟨2, false, 200, 3000⟩, ⟨2, false, 50, 500⟩,
     ⟨2, false, 50, 500⟩, ⟨1, false, 10, 200⟩]
  | 4 => [⟨1, false, 0, 1⟩, ⟨2, false, 1, 1023⟩, ⟨1, false, 1, 15⟩, ⟨1, false, 1, 15⟩]
  | 5 =>
    [⟨1, false, 0, 1⟩, ⟨2, false, 1, 65535⟩, ⟨1, false, 1, 8⟩, ⟨1, false, 80, 120⟩, ⟨2, false, 50, 400⟩,
     ⟨1, false, 0, 1⟩]
  | _ => []

/-- How many fields a table has (R177: the train door list is FORMATION's seventh). -/
def fieldCount (table : Nat) : Nat :=
  (fieldSpecs table).length + (if table = 5 then 1 else 0)

/-- A CONFIG_WRITE as carried, before the GEO judges it (R11): one entry of `values` per scalar field of the
table, absent where the field is not carried; `undefined` is the position of the first field of the field set that
the table does not define. -/
structure ConfigRequest where
  table : Nat
  entry : Nat
  values : List (Option Int)
  trainDoors : Option (List (Nat × Nat))
  undefined : Option Nat
deriving DecidableEq, Repr

/-- The carried scalar fields, read in order from the bytes after the field set; what is left of the bytes comes
back with them. `position` is the bit of the first field of `specs`. -/
def readScalars (fieldSet : Nat) : (position : Nat) → List FieldSpec → List Byte → Option (List (Option Int) × List Byte)
  | _, [], p => some ([], p)
  | i, f :: fs, p =>
    if fieldSet.testBit i then
      if f.bytes ≤ p.length then do
        let raw := p.take f.bytes
        let v : Int := if f.signed then beInt raw else beNat raw
        let (vs, rest) ← readScalars fieldSet (i + 1) fs (p.drop f.bytes)
        pure (some v :: vs, rest)
      else none
    else do
      let (vs, rest) ← readScalars fieldSet (i + 1) fs p
      pure (none :: vs, rest)

/-- `n` train door list entries of five bytes each: an offset, then a car index (R177). -/
def readTrainDoors : Nat → List Byte → Option (List (Nat × Nat) × List Byte)
  | 0, p => some ([], p)
  | n + 1, a :: b :: c :: d :: car :: p => do
    let (ds, rest) ← readTrainDoors n p
    pure ((beNat [a, b, c, d], car.toNat) :: ds, rest)
  | _ + 1, _ => none

/-- The carried train door list, if the field set names it. -/
def readTrainDoorField (table fieldSet : Nat) (p : List Byte) : Option (Option (List (Nat × Nat)) × List Byte) :=
  if table = 5 ∧ fieldSet.testBit 6 then
    match p with
    | n :: p => do
      let (ds, rest) ← readTrainDoors n.toNat p
      pure (some ds, rest)
    | [] => none
  else some (none, p)

/-- The position of the first field of a field set that a table does not define. -/
def undefinedField (table fieldSet : Nat) : Option Nat :=
  ((List.range 16).find? fun i => decide (fieldCount table ≤ i) && fieldSet.testBit i).map (· + 1)

/-- The layout of CONFIG_WRITE. The bytes of an undefined table, and of fields that a table does not define, have
no layout: they are left to the GEO's checks 4 and 5 (R11, assumption 12). DESIGN CHOICE (assumption 26): an empty
field set fits the layout, and such a write changes no field and is taken. -/
def formConfigWrite : List Byte → Option ConfigRequest
  | t :: e :: f0 :: f1 :: p =>
    let table := t.toNat
    let fieldSet := f0.toNat + 256 * f1.toNat
    if 1 ≤ table ∧ table ≤ 5 then do
      let (vs, rest) ← readScalars fieldSet 0 (fieldSpecs table) p
      let (ds, rest) ← readTrainDoorField table fieldSet rest
      let undefined := undefinedField table fieldSet
      if undefined.isNone ∧ rest ≠ [] then none
      else pure ⟨table, e.toNat, vs, ds, undefined⟩
    else some ⟨table, e.toNat, [], none, none⟩
  | _ => none

end Sys2Proof.Machine
end

