-- ==== Sys2Proof/Machine/Geometry.lean ====
section
/-! DEFINITION. The geometry store: the stop window, lookup of formations, the checks of a configuration write, and
the entries as a write would leave them (chapter 1). -/

namespace Sys2Proof.Machine

/-! ## Reading the store -/

/-- The beam of an end, as a platform coordinate. -/
def beamX (g : Geo) : End → Int
  | .a => g.berth.beamAX
  | .b => g.berth.beamBX

/-- The trim of the reader at an end. -/
def readerTrim (g : Geo) : End → Int
  | .a => g.berth.readerTrimA
  | .b => g.berth.readerTrimB

/-- The stop mark of an end. -/
def stopMark (g : Geo) : End → Int
  | .a => g.berth.stopMarkAX
  | .b => g.berth.stopMarkBX

/-- The stop window of a heading, both ends included (R5). -/
def inStopWindow (g : Geo) (h : End) (x : Int) : Bool :=
  match h with
  | .b => decide (beamX g .b - 1000 ≤ x ∧ x ≤ beamX g .b + 2500)
  | .a => decide (beamX g .a - 2500 ≤ x ∧ x ≤ beamX g .a + 1000)

/-- The fitted platform doors of a table, in ascending number. -/
def fittedDoors (t : Tab 40 DoorGeometry) : List Door := allDoors.filter fun d => (t.get d).fitted

/-- Lookup of the slot of an ANNOUNCE: by fleet code and car count (R13) or by formation number (R14). -/
def lookupFormation (g : Geo) (a : Announce) : Option Slot :=
  match a.key with
  | .fleet code =>
    allSlots.find? fun k =>
      let f := g.formations.get k
      f.valid && f.fleetCode == code && f.carCount == a.carCount
  | .number n =>
    (slotOfNumber n).filter fun k => (g.formations.get k).valid

/-! ## Consistency of the door table (R2) -/

/-- Two doors, `j` the lower, stand in increasing order and their openings do not overlap (R2). -/
def openingsApart (lo hi : DoorGeometry) : Bool :=
  decide ((lo.centreX : Int) < hi.centreX) &&
  decide (((lo.clearWidth + hi.clearWidth : Nat) : Int) ≤ 2 * ((hi.centreX : Int) - lo.centreX))

/-- Neighbouring members of a list, in order. -/
def neighbours {α : Type} : List α → List (α × α)
  | a :: b :: l => (a, b) :: neighbours (b :: l)
  | _ => []

/-- The two conditions of R2 over the whole table. For neighbours the second implies the first, and increase between
neighbours is increase between any two. -/
def doorTableConsistent (t : Tab 40 DoorGeometry) : Bool :=
  (neighbours (fittedDoors t)).all fun p => openingsApart (t.get p.1) (t.get p.2)

/-- The neighbour a written entry fails against, the lower one being named first (R2). -/
def failingNeighbour (t : Tab 40 DoorGeometry) (d : Door) : Option Door :=
  let lower := ((fittedDoors t).filter fun j => decide (j < d)).getLast?
  let upper := ((fittedDoors t).filter fun j => decide (d < j)).head?
  let bad (lo hi : Door) : Bool := !openingsApart (t.get lo) (t.get hi)
  if (t.get d).fitted then
    match lower.filter (fun j => bad j d) with
    | some j => some j
    | none => upper.filter fun j => bad d j
  else none

/-! ## Formation checks (R9, R10) -/

/-- The structural conditions of R9 down a train door list. -/
def trainDoorsOrdered (carCount : Nat) (l : List TrainDoor) : Bool :=
  (neighbours l).all (fun p => decide (p.1.offset < p.2.offset) && decide (p.1.carIndex ≤ p.2.carIndex)) &&
  l.all fun d => decide (d.carIndex ≤ carCount)

/-- The structural conditions of R9 on a valid slot. -/
def formationStructured (f : Formation) : Bool :=
  !f.trainDoors.isEmpty && decide (f.trainDoors.length ≤ 40) && trainDoorsOrdered f.carCount f.trainDoors

/-- The other valid slot that holds the same fleet code and car count, if there is one (R9). -/
def formationTwin (t : Tab 24 Formation) (k : Slot) (f : Formation) : Option Slot :=
  allSlots.find? fun j =>
    let g := t.get j
    decide (j ≠ k) && g.valid && g.fleetCode == f.fleetCode && g.carCount == f.carCount

/-- The smallest member of a list. -/
def smallest : List Int → Option Int
  | [] => none
  | x :: l => some (l.foldl min x)

/-- Distances between the centres of neighbouring fitted doors (R10). -/
def platformSpacings (t : Tab 40 DoorGeometry) : List Int :=
  (neighbours (fittedDoors t)).map fun p => ((t.get p.2).centreX : Int) - (t.get p.1).centreX

/-- Differences of the offsets of adjacent train doors (R10). -/
def trainSpacings (f : Formation) : List Int :=
  (neighbours f.trainDoors).map fun p => (p.2.offset : Int) - p.1.offset

/-- Whether twice a tolerance is less than the smallest member, or there is none to compare with (R10). -/
def toleranceFits (tol : Nat) (spacings : List Int) : Bool :=
  match smallest spacings with
  | some m => decide (2 * (tol : Int) < m)
  | none => true

/-- Spacing validation of one formation (R10). -/
def spacingPasses (t : Tab 40 DoorGeometry) (f : Formation) : Bool :=
  toleranceFits f.tolerance (platformSpacings t) && toleranceFits f.tolerance (trainSpacings f)

/-- The lowest-numbered valid formation that fails the spacing validation (R10). -/
def spacingFailure (doors : Tab 40 DoorGeometry) (formations : Tab 24 Formation) : Option Slot :=
  allSlots.find? fun k => (formations.get k).valid && !spacingPasses doors (formations.get k)

/-! ## Checks of a CONFIG_WRITE (R11) -/

/-- Check 4: the entry number lies within the table's entries. -/
def entryCount (table : Nat) : Nat :=
  match table with
  | 1 => 40
  | 2 => 1
  | 3 => 1
  | 4 => 80
  | 5 => 24
  | _ => 0

/-- Check 4 of R11: the table is one of the five and the entry number lies within its entries. -/
def entryExists (table entry : Nat) : Bool := decide (1 ≤ entry ∧ entry ≤ entryCount table)

/-- A carried value lies in its field's range. -/
def valueInRange (f : FieldSpec) : Option Int → Bool
  | some v => decide (f.lo ≤ v ∧ v ≤ f.hi)
  | none => true

/-- The position of the first carried scalar outside its range, in the order of the table. -/
def firstOutOfRange : (position : Nat) → List FieldSpec → List (Option Int) → Option Nat
  | i, f :: fs, v :: vs => if valueInRange f v then firstOutOfRange (i + 1) fs vs else some i
  | _, _, _ => none

/-- The detail of a field refused at check 5. R4, R6 and R7 say that the failing field is named; R1 and R8 name
none, and no rule names a field that its table does not define (assumption 13). -/
def fieldDetail (table position : Nat) : Detail :=
  if 2 ≤ table ∧ table ≤ 4 ∧ position ≤ fieldCount table then .field position else .none

/-- The carried value of a field, if it is carried. -/
def carried (r : ConfigRequest) (i : Nat) : Option Int := (r.values[i]?).join

/-- A carried natural number, or the stored one. -/
def natField (r : ConfigRequest) (i : Nat) (stored : Nat) : Nat :=
  match carried r i with
  | some v => v.toNat
  | none => stored

/-- A carried signed number, or the stored one. -/
def intField (r : ConfigRequest) (i : Nat) (stored : Int) : Int := (carried r i).getD stored

/-- A carried yes or no, or the stored one. -/
def boolField (r : ConfigRequest) (i : Nat) (stored : Bool) : Bool :=
  match carried r i with
  | some v => v == 1
  | none => stored

/-- A door geometry entry as a write would leave it (R1). -/
def writtenDoorGeometry (r : ConfigRequest) (old : DoorGeometry) : DoorGeometry where
  fitted := boolField r 0 old.fitted
  centreX := natField r 1 old.centreX
  clearWidth := natField r 2 old.clearWidth

/-- The berth constants as a write would leave them (R4). -/
def writtenBerthConstants (r : ConfigRequest) (old : BerthConstants) : BerthConstants where
  beamAX := natField r 0 old.beamAX
  beamBX := natField r 1 old.beamBX
  readerAX := natField r 2 old.readerAX
  readerBX := natField r 3 old.readerBX
  readerTrimA := intField r 4 old.readerTrimA
  readerTrimB := intField r 5 old.readerTrimB
  stopMarkAX := natField r 6 old.stopMarkAX
  stopMarkBX := natField r 7 old.stopMarkBX
  crossCheckLimit := natField r 8 old.crossCheckLimit
  creepThreshold := natField r 9 old.creepThreshold

/-- The timer settings as a write would leave them (R6). -/
def writtenTimers (r : ConfigRequest) (old : TimerSettings) : TimerSettings where
  unlockTimeout := natField r 0 old.unlockTimeout
  openTimeout := natField r 1 old.openTimeout
  closeTimeout := natField r 2 old.closeTimeout
  closeWarningLead := natField r 3 old.closeWarningLead
  warningOn := natField r 4 old.warningOn
  warningOff := natField r 5 old.warningOff
  doorwayWaitLimit := natField r 6 old.doorwayWaitLimit
  reopenHold := natField r 7 old.reopenHold
  stopSettle := natField r 8 old.stopSettle
  secureConfirm := natField r 9 old.secureConfirm

/-- A sensing entry as a write would leave it (R7). -/
def writtenSensing (r : ConfigRequest) (old : SensingEntry) : SensingEntry where
  enabled := boolField r 0 old.enabled
  threshold := natField r 1 old.threshold
  nOn := natField r 2 old.nOn
  nOff := natField r 3 old.nOff

/-- A formation record as a write would leave it: a carried train door list replaces the whole list (R8). -/
def writtenFormation (r : ConfigRequest) (old : Formation) : Formation where
  valid := boolField r 0 old.valid
  fleetCode := natField r 1 old.fleetCode
  carCount := natField r 2 old.carCount
  stepLength := natField r 3 old.stepLength
  tolerance := natField r 4 old.tolerance
  partialPermitted := boolField r 5 old.partialPermitted
  trainDoors :=
    match r.trainDoors with
    | some l => l.map fun d => ⟨d.1, d.2⟩
    | none => old.trainDoors

/-- A carried train door list lies in its ranges: at most 40 entries, offsets to 199,999 and car indices 1 to the car
count of the record (R8). -/
def trainDoorsInRange (cars : Nat) (l : List (Nat × Nat)) : Bool :=
  decide (l.length ≤ 40) && l.all fun d => decide (d.1 ≤ 199999 ∧ 1 ≤ d.2 ∧ d.2 ≤ cars)

/-- The car count of the formation record that a write names, as the write would leave it (R8, R9); an entry that is
not there has no cars. -/
def writtenCarCount (g : Geo) (r : ConfigRequest) : Nat :=
  match slotOfNumber r.entry with
  | some k => (writtenFormation r (g.formations.get k)).carCount
  | none => 0

/-- Check 5 of R11: the position of the first carried field that its table does not define or that is out of range. A
car index of a carried train door list is judged against the car count as the write would leave it (R8, R9,
assumption 17). -/
def firstFailingField (g : Geo) (r : ConfigRequest) : Option Nat :=
  match firstOutOfRange 1 (fieldSpecs r.table) r.values with
  | some i => some i
  | none =>
    match r.trainDoors with
    | some l => if trainDoorsInRange (writtenCarCount g r) l then r.undefined else some 7
    | none => r.undefined

/-- Check 7 of R11 for the berth constants: the position of the first field of R4's table whose condition fails
afterwards. -/
def berthConstantsFailure (b : BerthConstants) : Option Nat :=
  if b.beamAX < 2500 ∨ ¬ b.beamAX < b.beamBX then some 1
  else if 197499 < b.beamBX then some 2
  else none

/-- Check 7 of R11 for a formation: its structure, then its identity (R9). The answer is the detail of the
refusal. -/
def formationFailure (g : Geo) (k : Slot) (f : Formation) : Option Detail :=
  let old := g.formations.get k
  if f.valid then
    if formationStructured f then
      if !old.valid || f.fleetCode != old.fleetCode || f.carCount != old.carCount then
        (formationTwin g.formations k f).map .slot
      else none
    else some .none
  else none

/-! ## Writing an entry: the GEO and the persistent store change together (R12) -/

/-- A door geometry entry written. -/
def storeDoorGeometry (d : Door) (e : DoorGeometry) (s : State) : State :=
  { s with
    geo := { s.geo with doors := s.geo.doors.set d e }
    store := { s.store with doors := s.store.doors.set d e } }

/-- The berth constants written. -/
def storeBerthConstants (b : BerthConstants) (s : State) : State :=
  { s with geo := { s.geo with berth := b }, store := { s.store with berth := b } }

/-- The timer settings written. -/
def storeTimers (t : TimerSettings) (s : State) : State :=
  { s with geo := { s.geo with timers := t }, store := { s.store with timers := t } }

/-- A sensing entry written. -/
def storeSensing (c : Channel) (e : SensingEntry) (s : State) : State :=
  { s with
    geo := { s.geo with sensing := s.geo.sensing.set c e }
    store := { s.store with sensing := s.store.sensing.set c e } }

/-- A formation record written. -/
def storeFormation (k : Slot) (f : Formation) (s : State) : State :=
  { s with
    geo := { s.geo with formations := s.geo.formations.set k f }
    store := { s.store with formations := s.store.formations.set k f } }

end Sys2Proof.Machine
end

