-- ==== Sys2Proof/Machine/Alignment.lean ====
section
/-! DEFINITION. The alignment computation (3.4): where the train's front stands, which train door faces which
platform door, and the outcome; and the train view of the door table (R15). -/

namespace Sys2Proof.Machine

/-- Division by 10, rounded to nearest with halves away from zero (R40). -/
def roundTenth (n : Int) : Int :=
  if 0 ≤ n then (n + 5).tdiv 10 else -((-n + 5).tdiv 10)

/-- The travel in whole millimetres: steps times step length, in tenths, rounded (R40). -/
def travelOf (r : Reader) (f : Formation) : Int := roundTenth ((r.count - r.capture) * f.stepLength)

/-- The measured front x (R40). -/
def measuredFront (g : Geo) (h : End) (r : Reader) (f : Formation) : Int :=
  let travel := travelOf r f + readerTrim g h
  match h with
  | .b => beamX g .b + travel
  | .a => beamX g .a - travel

/-- The train-reported front x from a front offset (R36). -/
def reportedFront (g : Geo) (h : End) (offset : Int) : Int :=
  match h with
  | .b => stopMark g .b + offset
  | .a => stopMark g .a - offset

/-- The position of a train door whose list offset is `offset`, with the front in force at `front` (R42). -/
def trainDoorX (h : End) (front : Int) (offset : Nat) : Int :=
  match h with
  | .b => front - offset
  | .a => front + offset

/-- The nearer of two candidate doors to a position; at equal distance the first stays (R42). -/
def nearer (t : Tab 40 DoorGeometry) (x : Int) (best k : Door) : Door :=
  if (x - (t.get k).centreX).natAbs < (x - (t.get best).centreX).natAbs then k else best

/-- The nearest fitted platform door to a position, the lower number at equal distance (R42). -/
def nearestDoor (t : Tab 40 DoorGeometry) (x : Int) : Option Door :=
  match fittedDoors t with
  | [] => none
  | d :: l => some (l.foldl (nearer t x) d)

/-- The pairing list entry of one train door (R42). -/
def pairEntry (t : Tab 40 DoorGeometry) (h : End) (front : Int) (tEff : Nat) (number : Nat) (td : TrainDoor) :
    PairEntry :=
  let x := trainDoorX h front td.offset
  match nearestDoor t x with
  | none => ⟨number, none, none, false⟩
  | some k =>
    let e := x - (t.get k).centreX
    ⟨number, some k, some e, decide (e.natAbs ≤ tEff)⟩

/-- The pairing entries of a train door list whose first door has the number given (R42). -/
def pairFrom (t : Tab 40 DoorGeometry) (h : End) (front : Int) (tEff : Nat) :
    (number : Nat) → List TrainDoor → List PairEntry
  | _, [] => []
  | n, td :: l => pairEntry t h front tEff n td :: pairFrom t h front tEff (n + 1) l

/-- The outcome that a pairing list gives (R43). -/
def outcomeOf (l : List PairEntry) : AlignOutcome :=
  if l.any (fun e => e.paired) then
    if l.all fun e => e.paired then .aligned else .misaligned
  else .gross

/-- The greater of two errors in magnitude; at equal magnitude the first stays (R43). -/
def greaterError (best : Option Int) (e : Int) : Option Int :=
  match best with
  | none => some e
  | some b => if b.natAbs < e.natAbs then some e else some b

/-- The worst error: the error of greatest magnitude among the paired entries (R43). -/
def worstErrorOf (l : List PairEntry) : Option Int :=
  ((l.filter fun e => e.paired).filterMap fun e => e.error).foldl greaterError none

/-- The advice error: the sum of all errors over the number of train doors, truncated toward zero (R43). -/
def adviceErrorOf (l : List PairEntry) : Option Int :=
  let errors := l.filterMap fun e => e.error
  if errors.isEmpty then none else some (errors.sum.tdiv l.length)

/-- "The alignment is cleared" (3.1). -/
def clearAlignment (b : BerthRecord) : BerthRecord :=
  { b with
    measuredFrontX := none
    outcome := none
    tEff := none
    worstError := none
    adviceError := none
    stopCount := none
    pairing := []
    partialAuthorised := false
    positionSource := .none }

/-- The pairing and what is read from it, once the front in force is fixed and stands (R42, R43). -/
def pairAt (g : Geo) (h : End) (f : Formation) (front : Int) (tEff : Nat) (b : BerthRecord) : BerthRecord :=
  let l := pairFrom g.doors h front tEff 1 f.trainDoors
  { b with
    pairing := l
    outcome := some (outcomeOf l)
    worstError := worstErrorOf l
    adviceError := adviceErrorOf l }

/-- Whether the measured and the train-reported front disagree by more than the cross-check limit (R41). -/
def frontsDisagree (g : Geo) (measured : Int) (reported : Option Int) : Bool :=
  match reported with
  | some x => decide (g.berth.crossCheckLimit < (measured - x).natAbs)
  | none => false

/-- The stop window and the cross-check, then the pairing (R41 to R43). `reported` is the train-reported front held
beside a measured one; it is absent where the front in force is itself the train's report. -/
def placeTrain (g : Geo) (h : End) (f : Formation) (front : Int) (tEff : Nat) (reported : Option Int)
    (b : BerthRecord) : BerthRecord :=
  if !inStopWindow g h front then { b with outcome := some .gross }
  else if frontsDisagree g front reported then { b with outcome := some .unverified }
  else pairAt g h f front tEff b

/-- Whether the measuring reader gives a position: NORMAL with capture valid (R39). -/
def readerMeasures (r : Reader) : Bool := r.faultState == .normal && r.captureValid

/-- The alignment computation (R39 to R43), made whole over the berth record: the results of an earlier computation
are replaced, partial authorised is cleared (R44) and the stop count is kept. -/
def align (g : Geo) (h : End) (r : Reader) (b : BerthRecord) : BerthRecord :=
  let c := { clearAlignment b with stopCount := b.stopCount }
  let source : PositionSource :=
    if readerMeasures r then .reader
    else if b.trainReportedFrontX.isSome then .trainReport
    else .none
  match b.formationSlot with
  | none => { c with positionSource := source, outcome := some .unknown }
  | some k =>
    let f := g.formations.get k
    if readerMeasures r then
      let front := measuredFront g h r f
      placeTrain g h f front f.tolerance b.trainReportedFrontX
        { c with positionSource := .reader, tEff := some f.tolerance, measuredFrontX := some front }
    else
      match b.trainReportedFrontX with
      | some front =>
        placeTrain g h f front (f.tolerance / 2) none
          { c with positionSource := .trainReport, tEff := some (f.tolerance / 2) }
      | none => { c with positionSource := .none, outcome := some .unverified }

/-! ## The train view (R15) -/

/-- The platform door paired with a train door, through the train view: it exists while the record holds a
formation slot, a heading and a pairing list. -/
def pairedDoor (e : PairEntry) : Option Door := if e.paired then e.nearest else none

/-- Whether the train view exists (R15). -/
def trainViewExists (b : BerthRecord) : Bool :=
  b.formationSlot.isSome && b.heading.isSome && !b.pairing.isEmpty

/-- The paired platform doors of the train view, in train door order. -/
def pairedDoors (b : BerthRecord) : List Door :=
  if trainViewExists b then b.pairing.filterMap pairedDoor else []

/-- The car index of a train door in a formation's list. -/
def carOf (f : Formation) (trainDoor : Nat) : Option Nat :=
  (f.trainDoors[trainDoor - 1]?).map fun d => d.carIndex

/-- The paired platform doors of the train doors that carry a car index, through the train view (R15). -/
def pairedDoorsOfCar (f : Option Formation) (b : BerthRecord) (car : Nat) : List Door :=
  if trainViewExists b then
    match f with
    | some f => (b.pairing.filter fun e => carOf f e.trainDoor == some car).filterMap pairedDoor
    | none => []
  else []

/-- The mark of one train door (R50). -/
def markOf (doors : Tab 40 DoorRecord) (enable : DoorSet) (e : PairEntry) : DoorMark :=
  match pairedDoor e with
  | none => .unpaired
  | some k =>
    if enable.get k then .served
    else if (doors.get k).cutOut then .unservedCutout
    else .unservedFault

/-- The door summary in the train view (R50, R163). -/
def summaryOf (doors : Tab 40 DoorRecord) (b : BerthRecord) : List SummaryEntry :=
  if trainViewExists b then
    b.pairing.map fun e => ⟨e.trainDoor, markOf doors b.enableSet e, pairedDoor e⟩
  else []

end Sys2Proof.Machine
end

