-- ==== Sys2Proof/Machine/Flags.lean ====
section
/-! DEFINITION. The flags of the part: attention flags (R172), change marks (R84), and the secure cause set computed
from the SCL's input record (R128 to R130). -/

namespace Sys2Proof.Machine

/-- An attention flag set by its owner's event (R172). A flag already set stays set. -/
def setFlag (f : AttentionFlag) (s : State) : State :=
  { s with slp := { s.slp with flags := s.slp.flags.set f.index true } }

/-- Whether an attention flag is set. -/
def flagSet (s : State) (f : AttentionFlag) : Bool := s.slp.flags.get f.index

/-- The fault flag of a reader (R26). -/
def readerFlag : End → AttentionFlag
  | .a => .readerAFault
  | .b => .readerBFault

/-- The change mark of a door's group set (R84). -/
def setMark (d : Door) (s : State) : State :=
  { s with dlc := { s.dlc with marks := s.dlc.marks.set (doorGroup d) true } }

/-- Whether a flag that is enabled went from clear to set between two states (R173). -/
def enabledFlagRaised (s0 s : State) : Bool :=
  (List.finRange 10).any fun i => s.slp.enables.get i && !s0.slp.flags.get i && s.slp.flags.get i

/-! ## Secure causes -/

/-- States in which a door does not hold the DOORS cause (R128). -/
def doorSecure : DoorState → Bool
  | .closedLocked => true
  | .isolated => true
  | .absent => true
  | _ => false

/-- The GAP cause at one door: watched, no bypass, and the channel not "ACTIVE and clear" (R130). -/
def gapCauseAt (i : SclInput) (d : Door) : Bool :=
  i.gapWatch.get d && !i.bypasses.get d && i.gaps.get d != .clear

/-- The cause set that an input record gives (R128 to R130). -/
def causesOf (i : SclInput) : CauseSet where
  doors := allDoors.any fun d => !doorSecure (i.doorStates.get d)
  release := i.releaseHeld
  gap := allDoors.any fun d => gapCauseAt i d
  mode := i.mode == .fire
  survey := i.survey == .running
  creep := i.berthState == .creep

/-- Whether a cause set is empty (R132). -/
def causesEmpty (c : CauseSet) : Bool :=
  !(c.doors || c.release || c.gap || c.mode || c.survey || c.creep)

/-- The gap view of a channel record (R103, R127). -/
def gapViewOf (r : ChannelRecord) : GapView :=
  if r.state = .active then (if r.occupied then .occupied else .clear) else .notActive

/-- Whether some release record is ACTIVE: the emergency active view (R123). -/
def anyActive (l : List ReleaseRecord) : Bool := l.any fun r => r.state == .active

/-- Whether a PER or FIRE record is ACTIVE (R111, R123). -/
def perFireActive (l : List ReleaseRecord) : Bool :=
  l.any fun r => r.state == .active && (r.source == .per || r.source == .fire)

/-- The input record that the blocks hand the SCL (R127). -/
def sclInputOf (s : State) : SclInput where
  doorStates := Tab.ofFn fun d => (doorAt s d).state
  bypasses := Tab.ofFn fun d => (doorAt s d).gapBypass
  gaps := Tab.ofFn fun d => gapViewOf (channelAt s (gapChannel d))
  gapWatch := s.berth.gapWatch
  berthState := s.berth.state
  releaseHeld := !s.rlm.list.isEmpty || s.rlm.overflow
  mode := s.mac.mode
  survey := s.dlc.survey

end Sys2Proof.Machine
end

