-- ==== Sys2Proof/Machine/Doors.lean ====
section
/-! DEFINITION. One door record: its state entries, and how commands, reports, misses, timers and the doorway act on
it (chapter 4). Nothing here touches another block; what a change hands to others stands in DoorLoop.lean. -/

namespace Sys2Proof.Machine

/-! ## State entries (R67) -/

/-- States whose entry makes close pending no (R67). -/
def dropsClosePending : DoorState → Bool
  | .closedLocked => true
  | .init => true
  | .emergency => true
  | .isolated => true
  | .fault => true
  | _ => false

/-- States whose entry zeroes the reopen count and clears slow close (R71). -/
def forgetsReopens : DoorState → Bool
  | .closedLocked => true
  | .init => true
  | _ => false

/-- States in which the warning cadence runs (R82). -/
def cadenceRuns : DoorState → Bool
  | .closeWait => true
  | .closing => true
  | .reopening => true
  | _ => false

/-- Entry to a state with the command given: the state timer stops, the causes of other states go, close pending,
reopen count and slow close as R67 and R71 state, and the cadence stops unless it runs in the state entered. -/
def enterState (st : DoorState) (cmd : Option Command) (r : DoorRecord) : DoorRecord :=
  { r with
    state := st
    command := cmd
    stateTimer := none
    blockedCause := none
    faultCause := none
    closePending := r.closePending && !dropsClosePending st
    reopenCount := if forgetsReopens st then 0 else r.reopenCount
    slowClose := r.slowClose && !forgetsReopens st
    warningPhase := if cadenceRuns st then r.warningPhase else .none
    warningTimer := if cadenceRuns st then r.warningTimer else none }

/-- The state timer started. -/
def withTimer (kind : StateTimerKind) (time : Nat) (r : DoorRecord) : DoorRecord :=
  { r with stateTimer := some ⟨kind, time⟩ }

/-- Entry to CLOSED_LOCKED. -/
def enterClosedLocked (r : DoorRecord) : DoorRecord := enterState .closedLocked (some .hold) r

/-- Entry to EMERGENCY (R73). -/
def enterEmergency (r : DoorRecord) : DoorRecord := enterState .emergency (some .hold) r

/-- Entry to ISOLATED (R75). -/
def enterIsolated (r : DoorRecord) : DoorRecord := enterState .isolated (some .hold) r

/-- Entry to FAULT with a cause (R76). -/
def enterFault (cause : DoorFaultCause) (r : DoorRecord) : DoorRecord :=
  { enterState .fault (some .hold) r with faultCause := some cause }

/-- Entry to OPEN from UNLOCKING, OPENING or REOPENING: the command is kept (R67). -/
def enterOpenKept (r : DoorRecord) : DoorRecord := enterState .opened r.command r

/-- Entry to OPEN by adoption or from EMERGENCY: HOLD (R67). -/
def enterOpenHeld (r : DoorRecord) : DoorRecord := enterState .opened (some .hold) r

/-- Entry to UNLOCKING (R68). -/
def enterUnlocking (t : TimerSettings) (r : DoorRecord) : DoorRecord :=
  withTimer .unlock t.unlockTimeout (enterState .unlocking (some .unlockOpen) r)

/-- Entry to OPENING (R68). -/
def enterOpening (t : TimerSettings) (r : DoorRecord) : DoorRecord :=
  withTimer .opening t.openTimeout (enterState .opening (some .unlockOpen) r)

/-- Entry to CLOSE_WAIT: a new lead, and the cadence starts in its ON phase (R70, R82). -/
def enterCloseWait (t : TimerSettings) (r : DoorRecord) : DoorRecord :=
  { withTimer .lead t.closeWarningLead (enterState .closeWait r.command r) with
    warningPhase := .on
    warningTimer := some t.warningOn }

/-- Entry to CLOSING: slowly if slow close is set or DOORWAY_k is not ACTIVE (R70). -/
def enterClosing (t : TimerSettings) (doorway : GapView) (r : DoorRecord) : DoorRecord :=
  let cmd : Command := if r.slowClose || doorway == .notActive then .slowCloseLock else .closeLock
  withTimer .close t.closeTimeout (enterState .closing (some cmd) r)

/-- Entry to REOPENING (R68, R71). -/
def enterReopening (t : TimerSettings) (r : DoorRecord) : DoorRecord :=
  withTimer .opening t.openTimeout (enterState .reopening (some .reopen) r)

/-- Entry to CLOSE_BLOCKED (R72): under REOPEN for an obstruction, under the command kept for the doorway. -/
def enterCloseBlocked (cause : BlockedCause) (r : DoorRecord) : DoorRecord :=
  let cmd : Option Command :=
    match cause with
    | .obstruction => some .reopen
    | .doorway => r.command
  { enterState .closeBlocked cmd r with blockedCause := some cause }

/-- Entry to INIT, with status polls (R67). -/
def enterInit (r : DoorRecord) : DoorRecord := enterState .init none r

/-! ## Commands -/

/-- The door goes OPEN at the end of its opening, or on to CLOSE_WAIT if a close is pending (R68). -/
def endOpening (t : TimerSettings) (r : DoorRecord) : DoorRecord :=
  if r.closePending then enterCloseWait t r else enterOpenKept r

/-- Whether a door's state timer of the kind given is running. -/
def timerIs (kind : StateTimerKind) (r : DoorRecord) : Bool :=
  match r.stateTimer with
  | some tm => tm.kind == kind
  | none => false

/-- Whether a door's state timer of the kind given has run out (assumption 8). -/
def timerDue (kind : StateTimerKind) (r : DoorRecord) : Bool :=
  match r.stateTimer with
  | some tm => tm.kind == kind && tm.remaining == 0
  | none => false

/-- An open command taken by the door's state (R68). -/
def takeOpen (t : TimerSettings) (r : DoorRecord) : DoorRecord :=
  match r.state with
  | .closedLocked => enterUnlocking t r
  | .unlocking => { r with closePending := false }
  | .opening => { r with closePending := false }
  | .opened => r
  | .closeWait => { enterReopening t r with reopenCount := 0, closePending := false }
  | .closing => { enterReopening t r with reopenCount := 0, closePending := false }
  | .reopening =>
    if timerIs .reopenHold r then
      enterOpenKept { r with closePending := false, reopenCount := 0 }
    else { r with closePending := false, reopenCount := 0 }
  | .closeBlocked => { r with command := some .reopen }
  | .absent => r
  | .init => r
  | .emergency => r
  | .isolated => r
  | .fault => r

/-- A close command taken by the door's state, no PER or FIRE release being in force (R69). -/
def takeClose (t : TimerSettings) (r : DoorRecord) : DoorRecord :=
  match r.state with
  | .opened => { enterCloseWait t r with closePending := true }
  | .unlocking => { r with closePending := true }
  | .opening => { r with closePending := true }
  | .reopening => { r with closePending := true }
  | .closedLocked => r
  | .closeWait => r
  | .closing => r
  | .closeBlocked => r
  | .absent => r
  | .init => r
  | .emergency => r
  | .isolated => r
  | .fault => r

/-- Whether FORCE_CLOSE is taken by a CLOSE_BLOCKED door, by its blocked cause (R72). -/
def forceCloseAllowed (doorway : GapView) (r : DoorRecord) : Bool :=
  match r.blockedCause with
  | some .obstruction => true
  | some .doorway => doorway != .occupied
  | none => false

/-- A taken FORCE_CLOSE: CLOSE_WAIT with a new lead; for an obstruction slow close is set first (R72). -/
def takeForceClose (t : TimerSettings) (r : DoorRecord) : DoorRecord :=
  enterCloseWait t { r with slowClose := r.slowClose || r.blockedCause == some .obstruction }

/-- A close in progress is reversed, or blocked once three reversals have been counted (R71). -/
def reverseClose (t : TimerSettings) (r : DoorRecord) : DoorRecord :=
  if r.reopenCount < Config.reopenLimit then
    let n := r.reopenCount + 1
    enterReopening t { r with reopenCount := n, slowClose := r.slowClose || n == Config.reopenLimit }
  else enterCloseBlocked .obstruction r

/-! ## Reports and misses -/

/-- Adoption of a door from a report (R66). -/
def adopt (t : TimerSettings) (rep : Report) (r : DoorRecord) : DoorRecord :=
  if rep.handle = .pulled then enterEmergency r
  else if rep.isolation = .isolated then
    if rep.closedLocked then enterIsolated r else enterFault .isolation r
  else if rep.motorFault then enterFault .motor r
  else if rep.closedLocked then enterClosedLocked r
  else if rep.leaf = .opened then enterOpenHeld r
  else if r.state = .init ∧ timerIs .opening r then r
  else withTimer .opening t.openTimeout (enterInit r)

/-- The state a door leaves EMERGENCY to, chosen from the report that shows the handle NORMAL (R74). -/
def leaveEmergency (rep : Report) (r : DoorRecord) : DoorRecord :=
  if rep.isolation = .isolated then
    if rep.closedLocked then enterIsolated r else enterFault .isolation r
  else if rep.motorFault then enterFault .motor r
  else if rep.closedLocked then enterClosedLocked r
  else enterOpenHeld r

/-- The leaf, locked and obstruction fields handled by the rule of the door's state: step 7 of R65. -/
def handleLeaf (t : TimerSettings) (rep : Report) (r : DoorRecord) : DoorRecord :=
  match r.state with
  | .unlocking =>
    if rep.leaf = .opened then endOpening t r
    else if rep.locked then r
    else enterOpening t r
  | .opening => if rep.leaf = .opened then endOpening t r else r
  | .closing =>
    if rep.closedLocked then enterClosedLocked r
    else if rep.obstruction then reverseClose t r
    else r
  | .reopening =>
    if rep.leaf = .opened then
      if r.closePending then
        if timerIs .reopenHold r then r else withTimer .reopenHold t.reopenHold r
      else enterOpenKept r
    else r
  | .absent => r
  | .init => r
  | .closedLocked => r
  | .opened => r
  | .closeWait => r
  | .closeBlocked => r
  | .emergency => r
  | .isolated => r
  | .fault => r

/-- What the evaluation of a report hands to the RLM (R80). -/
inductive ReportNotice where
  | nothing
  | adoption
  | handlePulled
  | handleReturned
deriving DecidableEq, Repr

/-- The evaluation of a valid report: the first step of R65 that applies decides. -/
def evaluateReport (t : TimerSettings) (rep : Report) (r : DoorRecord) : DoorRecord × ReportNotice :=
  if rep.unitRestarted then (adopt t rep r, .adoption)
  else if r.state = .init then (adopt t rep r, .adoption)
  else if rep.handle = .pulled then
    if r.state = .emergency then (r, .nothing) else (enterEmergency r, .handlePulled)
  else if r.state = .emergency then (leaveEmergency rep r, .handleReturned)
  else if r.state = .fault then (r, .nothing)
  else if rep.isolation = .isolated then
    if rep.closedLocked then
      if r.state = .isolated then (r, .nothing) else (enterIsolated r, .nothing)
    else (enterFault .isolation r, .nothing)
  else if r.state = .isolated then (adopt t rep r, .adoption)
  else if rep.motorFault then (enterFault .motor r, .nothing)
  else (handleLeaf t rep r, .nothing)

/-- A valid report is stored and zeroes the miss count (R64). -/
def storeReport (rep : Report) (r : DoorRecord) : DoorRecord :=
  { r with lastReport := some rep, missCount := 0 }

/-- States in which a third miss does not fault the door (R64). -/
def missTolerant : DoorState → Bool
  | .absent => true
  | .fault => true
  | .emergency => true
  | _ => false

/-- A miss: the count advances, and a miss that brings it to 3 faults the door (R64). -/
def takeMiss (r : DoorRecord) : DoorRecord :=
  let r' := { r with missCount := min Config.missLimit (r.missCount + 1) }
  if r.missCount + 1 = Config.missLimit ∧ missTolerant r.state = false then enterFault .comms r' else r'

/-! ## Timer expiries and the doorway -/

/-- Expiry of the warning lead: the door looks at its doorway (R70). -/
def leadExpired (t : TimerSettings) (doorway : GapView) (r : DoorRecord) : DoorRecord :=
  if doorway = .occupied then withTimer .doorwayWait t.doorwayWaitLimit r else enterClosing t doorway r

/-- The SSC's notice about DOORWAY_k: whether occupied has just been set, and the doorway as it now stands
(R70, R71, R102). -/
def doorwayNotice (t : TimerSettings) (becameOccupied : Bool) (doorway : GapView) (r : DoorRecord) : DoorRecord :=
  match r.state with
  | .closeWait =>
    if timerIs .doorwayWait r ∧ doorway ≠ .occupied then enterClosing t doorway r else r
  | .closing => if becameOccupied then reverseClose t r else r
  | .absent => r
  | .init => r
  | .closedLocked => r
  | .unlocking => r
  | .opening => r
  | .opened => r
  | .reopening => r
  | .closeBlocked => r
  | .emergency => r
  | .isolated => r
  | .fault => r

/-- The warning phase ends and the other begins, each load taking the settings then in force (R83). -/
def flipWarning (t : TimerSettings) (r : DoorRecord) : DoorRecord :=
  match r.warningPhase with
  | .on => { r with warningPhase := .off, warningTimer := some t.warningOff }
  | .off => { r with warningPhase := .on, warningTimer := some t.warningOn }
  | .none => r

/-- DOOR_REINIT's effect on the record (R77, R86). -/
def reinitDoor (r : DoorRecord) : DoorRecord :=
  { enterInit r with lastReport := none, missCount := 0 }

/-- A door record at warm restart: as at cold start, cut-out and gap bypass kept (R86). -/
def warmDoor (isFitted : Bool) (r : DoorRecord) : DoorRecord :=
  { DoorRecord.cold isFitted with cutOut := r.cutOut, gapBypass := r.gapBypass }

end Sys2Proof.Machine
end

