-- ==== Sys2Proof/Machine/DoorLoop.lean ====
section
/-! DEFINITION. What a change of a door record hands to the other blocks in the same event (R80): the BSQ's enable
set and DISPATCHING (R51, R53, R54), the MAC's test record (R150), the flags and marks; and the commands that other
blocks hand to door records (R68, R69). -/

namespace Sys2Proof.Machine

/-! ## The BSQ's side -/

/-- The BSQ hands the TLP a door summary: it becomes the held summary and is to be sent (R163). -/
def handSummary (s : State) : State :=
  { s with tlp := { s.tlp with heldSummary := some (summaryOf s.dlc.doors s.berth) }, summaryDue := true }

/-- Whether a door counts as closed for DISPATCHING (R54). -/
def closedForDispatch : DoorState → Bool
  | .closedLocked => true
  | .isolated => true
  | _ => false

/-- Whether every door of the enable set is CLOSED_LOCKED or ISOLATED (R54). -/
def enableSetClosed (s : State) : Bool :=
  allDoors.all fun d => !s.berth.enableSet.get d || closedForDispatch (doorAt s d).state

/-- Entry to DISPATCHING: the enable set is emptied, close requested becomes no, the gap watch set is kept (R54). -/
def enterDispatching (s : State) : State :=
  { s with berth := { s.berth with state := .dispatching, enableSet := DoorSet.empty, closeRequested := false } }

/-- The BSQ's evaluation of the move from RELEASED to DISPATCHING (R54). -/
def dispatchIfClosed (s : State) : State :=
  if s.berth.state = .released ∧ s.berth.closeRequested ∧ enableSetClosed s then enterDispatching s else s

/-- States whose entry removes a door from the enable set (R51). -/
def leavesEnableSet : DoorState → Bool
  | .fault => true
  | .emergency => true
  | .isolated => true
  | _ => false

/-- The BSQ takes the change of state of a door of the enable set while RELEASED: a door that entered FAULT, EMERGENCY
or ISOLATED is removed with a fresh summary (R51), and DISPATCHING is evaluated (R54). -/
def bsqDoorChange (d : Door) (new : DoorState) (s : State) : State :=
  if s.berth.state = .released ∧ s.berth.enableSet.get d then
    dispatchIfClosed
      (if leavesEnableSet new then
        handSummary { s with berth := { s.berth with enableSet := s.berth.enableSet.erase d } }
      else s)
  else s

/-! ## The MAC's side -/

/-- How a RUNNING test of a door ends on the state the door enters, if it ends (R150). -/
def testEnd : DoorState → Option (TestState × Option AbortCause)
  | .closedLocked => some (.passed, none)
  | .opened => some (.aborted, some .opened)
  | .fault => some (.aborted, some (.doorState .fault))
  | .emergency => some (.aborted, some (.doorState .emergency))
  | .isolated => some (.aborted, some (.doorState .isolated))
  | .init => some (.aborted, some (.doorState .init))
  | .absent => some (.aborted, some (.doorState .absent))
  | .unlocking => none
  | .opening => none
  | .closeWait => none
  | .closing => none
  | .reopening => none
  | .closeBlocked => none

/-- The test record after the door under test has entered a state (R149, R150). -/
def testAfterDoor (d : Door) (new : DoorState) (t : Option TestRecord) : Option TestRecord :=
  match t with
  | some r =>
    if r.door = d ∧ r.state = .running then
      match testEnd new with
      | some (st, cause) => some { r with state := st, abortCause := cause }
      | none => some r
    else some r
  | none => none

/-- A RUNNING test ends ABORTED with a cause (R150). -/
def abortTest (cause : AbortCause) (t : Option TestRecord) : Option TestRecord :=
  match t with
  | some r => if r.state = .running then some { r with state := .aborted, abortCause := some cause } else some r
  | none => none

/-- The MAC takes the change of state of a door (R149). -/
def macDoorChange (d : Door) (new : DoorState) (s : State) : State :=
  { s with mac := { s.mac with test := testAfterDoor d new s.mac.test } }

/-! ## A change of a door record -/

/-- The attention flag that entry to a door state sets, if any (R72, R76). -/
def doorFlag (new : DoorState) (s : State) : State :=
  match new with
  | .fault => setFlag .doorFault s
  | .closeBlocked => setFlag .closeBlocked s
  | _ => s

/-- Whether a door record differs in a field that sets its group's change mark (R84). -/
def marksChange (old new : DoorRecord) : Bool :=
  old.state != new.state || old.cutOut != new.cutOut || old.gapBypass != new.gapBypass

/-- A door record written, with its group's change mark if its state, cut-out or gap bypass changed (R84). -/
def writeDoor (d : Door) (new : DoorRecord) (s : State) : State :=
  let s' := putDoor s d new
  if marksChange (doorAt s d) new then setMark d s' else s'

/-- A change of a door record handed on: the record is changed first, then a change of state goes to the flags, the
BSQ and the MAC (R80). -/
def changeDoorCore (d : Door) (f : DoorRecord → DoorRecord) (s : State) : State :=
  let old := doorAt s d
  let new := f old
  let s' := writeDoor d new s
  if new.state = old.state then s'
  else macDoorChange d new.state (bsqDoorChange d new.state (doorFlag new.state s'))

/-- A close command handed to a door record; while a PER or FIRE release is in force it is not taken (R69). -/
def closeCommand (d : Door) (s : State) : State :=
  if s.dlc.releaseInForce then s else changeDoorCore d (takeClose s.geo.timers) s

/-- Whether the BSQ hands a close command to a door that has entered OPEN (R53). -/
def reCloses (d : Door) (s : State) : Bool :=
  s.berth.closeRequested &&
  ((s.berth.state == .released && s.berth.enableSet.get d) || s.berth.state == .creep)

/-- A change of a door record, and the BSQ's answer to its entry to OPEN while close requested is yes (R53). -/
def changeDoor (d : Door) (f : DoorRecord → DoorRecord) (s : State) : State :=
  let old := doorAt s d
  let s' := changeDoorCore d f s
  if (doorAt s' d).state = .opened ∧ old.state ≠ .opened ∧ reCloses d s' then closeCommand d s' else s'

/-- An open command handed to a door record (R68). -/
def openCommand (d : Door) (s : State) : State := changeDoor d (takeOpen s.geo.timers) s

/-- "Open door": a fitted door in state OPEN or OPENING (R53). -/
def isOpenDoor (s : State) (d : Door) : Bool :=
  fitted s d && ((doorAt s d).state == .opened || (doorAt s d).state == .opening)

/-- Close commands to every open door (R53). -/
def closeOpenDoors (s : State) : State :=
  forDoors (allDoors.filter fun d => isOpenDoor s d) closeCommand s

/-- Close commands to the enable-set doors that are open (R53). -/
def closeEnabledDoors (s : State) : State :=
  forDoors (allDoors.filter fun d => s.berth.enableSet.get d && isOpenDoor s d) closeCommand s

/-- The doorway of a door as the SSC holds it (R70). -/
def doorwayOf (s : State) (d : Door) : GapView := gapViewOf (channelAt s (doorwayChannel d))

/-! ## The survey (R85) -/

/-- Whether a fitted door remains in INIT. -/
def someDoorInit (s : State) : Bool := allDoors.any fun d => fitted s d && (doorAt s d).state == .init

end Sys2Proof.Machine
end

