-- ==== Sys2Proof/Machine/Release.lean ====
section
/-! DEFINITION. The release monitor: triggers against the retained release list, release actions, clearing, re-arming
and reconciliation (chapter 6). -/

namespace Sys2Proof.Machine

/-! ## The list -/

/-- Whether a record number is held. -/
def numberHeld (l : List ReleaseRecord) (n : Nat) : Bool := l.any fun r => r.number == n

/-- The number given at creation: the lowest not held, 1 to 255 (R107). -/
def freeNumber (l : List ReleaseRecord) : Nat :=
  ((List.range 255).map (· + 1)).find? (fun n => !numberHeld l n) |>.getD 255

/-- Whether the list holds an ACTIVE record of an identity. -/
def activeOf (l : List ReleaseRecord) (src : ReleaseSource) : Bool :=
  l.any fun r => r.source == src && r.state == .active

/-- Whether the list holds a record of an identity (R108). -/
def holdsSource (l : List ReleaseRecord) (src : ReleaseSource) : Bool := l.any fun r => r.source == src

/-- Whether a source is a train emergency. -/
def isTrain : ReleaseSource → Bool
  | .train _ => true
  | _ => false

/-- A record of the trigger's identity, as the trigger leaves it (rows 1 and 2 of R109). -/
def retrigger (now : Nat) (trainId : Option Nat) (r : ReleaseRecord) : ReleaseRecord :=
  { r with
    state := .active
    lastTime := now
    trainId := if isTrain r.source then trainId else r.trainId
    occurrences := if r.state = .cleared then min 255 (r.occurrences + 1) else r.occurrences }

/-- A record as created (row 3 of R109). -/
def newRecord (now : Nat) (trainId : Option Nat) (src : ReleaseSource) (l : List ReleaseRecord) : ReleaseRecord where
  number := freeNumber l
  source := src
  trainId := if isTrain src then trainId else none
  state := .active
  firstTime := now
  lastTime := now
  occurrences := 1

/-- Whether a trigger overflows: no record of its identity, and 16 records held (row 4 of R109). -/
def overflows (l : List ReleaseRecord) (src : ReleaseSource) : Bool :=
  !holdsSource l src && decide (Config.releaseCapacity ≤ l.length)

/-- The list after a trigger (R109). -/
def triggered (now : Nat) (trainId : Option Nat) (src : ReleaseSource) (l : List ReleaseRecord) : List ReleaseRecord :=
  if holdsSource l src then l.map fun r => if r.source = src then retrigger now trainId r else r
  else if l.length < Config.releaseCapacity then l ++ [newRecord now trainId src l]
  else l

/-- A record whose cause has ended: ACTIVE moves to CLEARED (R114). -/
def clearRecord (r : ReleaseRecord) : ReleaseRecord := { r with state := .cleared }

/-- The records whose source satisfies a test, cleared (R114). -/
def clearedWhere (p : ReleaseSource → Bool) (l : List ReleaseRecord) : List ReleaseRecord :=
  l.map fun r => if p r.source then clearRecord r else r

/-! ## The monitor -/

/-- The list written, the DLC being told in the same event whether a PER or FIRE release is in force (R111, R114,
R123). -/
def setList (l : List ReleaseRecord) (s : State) : State :=
  { s with rlm := { s.rlm with list := l }, dlc := { s.dlc with releaseInForce := perFireActive l } }

/-- A trigger against the list, with the flags it sets (R109). -/
def trigger (src : ReleaseSource) (s : State) : State :=
  let full := overflows s.rlm.list src
  let s' := setFlag .releaseNew (setList (triggered s.rlm.deviceTime s.berth.trainId src s.rlm.list) s)
  if full then setFlag .overflow { s' with rlm := { s'.rlm with overflow := true } } else s'

/-- Records cleared because their cause has ended (R114). -/
def clearSources (p : ReleaseSource → Bool) (s : State) : State :=
  setList (clearedWhere p s.rlm.list) s

/-- States in which a door is not handed the open command of a PER or FIRE release (R111). -/
def releaseSkips : DoorState → Bool
  | .absent => true
  | .init => true
  | .isolated => true
  | .fault => true
  | .emergency => true
  | _ => false

/-- The release action of PER or FIRE: an open command to each eligible fitted door (R111). -/
def releaseAction (s : State) : State :=
  forDoors (allDoors.filter fun d => fitted s d && !releaseSkips (doorAt s d).state) openCommand s

/-- A PER or FIRE trigger with its release action, carried out when a record of its source is then ACTIVE (R109,
R111). -/
def lineTrigger (src : ReleaseSource) (s : State) : State :=
  let s' := trigger src s
  if activeOf s'.rlm.list src then releaseAction s' else s'

/-- Re-arming, after a removal of records and where assumption 28 says: the FIRE line, the PER line, then each fitted
door in EMERGENCY that no ACTIVE HANDLE record names (R118). -/
def rearm (s : State) : State :=
  let s := if s.rlm.fireLine && !activeOf s.rlm.list .fire then lineTrigger .fire s else s
  let s := if s.rlm.perLine && !activeOf s.rlm.list .per then lineTrigger .per s else s
  forDoors
    (allDoors.filter fun d =>
      fitted s d && (doorAt s d).state == .emergency && !activeOf s.rlm.list (.handle d))
    (fun d => trigger (.handle d)) s

/-- Whether a source is the handle of a door. -/
def isHandleOf (d : Door) (src : ReleaseSource) : Bool := src == .handle d

/-- The RLM takes an adoption (R119), and a door adopted CLOSED_LOCKED joins a PER or FIRE release in force (R112). -/
def takeAdoption (d : Door) (rep : Report) (s : State) : State :=
  let s := if rep.handle = .pulled then trigger (.handle d) s else clearSources (isHandleOf d) s
  if (doorAt s d).state = .closedLocked ∧ perFireActive s.rlm.list then openCommand d s else s

/-- A HANDLE record that the survey check keeps: its door is in EMERGENCY or INIT (R120). -/
def surveyKeeps (s : State) (src : ReleaseSource) : Bool :=
  match src with
  | .handle d => (doorAt s d).state == .emergency || (doorAt s d).state == .init
  | _ => true

/-- The survey becomes COMPLETE when no fitted door remains in INIT, and the RLM checks the HANDLE records (R85,
R120). -/
def surveyCheck (s : State) : State :=
  if s.dlc.survey = .running ∧ someDoorInit s = false then
    let s := clearSources (fun src => !surveyKeeps s src) s
    { s with dlc := { s.dlc with survey := .complete } }
  else s

end Sys2Proof.Machine
end

