-- ==== Sys2Proof/Machine/Berth.lean ====
section
/-! DEFINITION. The berth sequencer: arrival, stopping, movement, release, opening and closing, creep and departure
(chapter 3), with the readers' record changes that the BSQ makes (chapter 2). -/

namespace Sys2Proof.Machine

/-! ## Readers as the BSQ changes them -/

/-- The sense of a reader while a heading is held, or its default, which points towards its own end (R18). -/
def senseFor (heading : Option End) (e : End) : End := heading.getD e

/-- The heading handed to both readers as their sense; no heading hands back the default (R18). -/
def handSense (heading : Option End) (s : State) : State :=
  { s with
    readerA := { s.readerA with sense := senseFor heading .a }
    readerB := { s.readerB with sense := senseFor heading .b } }

/-- The heading entered in the berth record and handed to both readers (R18). -/
def enterHeading (h : End) (s : State) : State :=
  handSense (some h) { s with berth := { s.berth with heading := some h } }

/-- A reader at EMPTY entry (R30). -/
def zeroReader (e : End) (r : Reader) : Reader :=
  { r with
    count := 0
    capture := 0
    illegalCount := 0
    captureValid := false
    edgeSeen := false
    directionChange := false
    saturated := false
    lastStep := .none
    sense := e }

/-- Whether a reader is NORMAL. -/
def readerNormal (r : Reader) : Bool := r.faultState == .normal

/-- The step of a settle check at the reader: edge seen is cleared (R21). -/
def settleChecked (r : Reader) : Reader := { r with edgeSeen := false }

/-- Whether a settle check is owed that still can be made: the berth is ARRIVING or CREEP, and the reader that owes it
is the measuring reader and NORMAL (R21, R37, R56). -/
def checkStands (s : State) : Bool :=
  match s.checkOwed with
  | some e =>
    (s.berth.state == .arriving || s.berth.state == .creep) && measuring s == some e && readerNormal (readerAt s e)
  | none => false

/-- The time to the next expiry of the stop settle time, none of it being left where a settle check is owed (R21). -/
def settleTimer (s : State) : Timer := if checkStands s then some 0 else s.stopSettle

/-- Whether the last step was forward or backward under the current sense, if there was one (R18). -/
def lastForward (r : Reader) : Option Bool :=
  match r.lastStep with
  | .towards e => some (e == r.sense)
  | .none => none

/-! ## The session, as the BSQ and TLP share it -/

/-- The departure quiet time starts when the session ends while the berth is DEPARTING (R58). -/
def quietAtSessionEnd (s : State) : State := if s.berth.state = .departing then startQuiet s else s

/-- The session ends by LOSS or DEPART: it becomes NONE and the status timer stops; version, train id and held summary
are kept (R154, R157). -/
def closeSession (s : State) : State :=
  quietAtSessionEnd { s with tlp := { s.tlp with session := .none, statusTimer := none } }

/-! ## Entry to EMPTY (R59) -/

/-- The session's end at EMPTY entry (R157). -/
def dropSession (s : State) : State :=
  { s with
    tlp :=
      { s.tlp with
        session := .none
        statusTimer := none
        sessionVersion := none
        sessionTrainId := none
        heldSummary := none } }

/-- Entry to EMPTY: the berth record is emptied, the session ended, both readers zeroed with their default sense, and
every ACTIVE TRAIN record cleared (R59, R30, R115, R157). -/
def enterEmpty (s : State) : State :=
  clearSources isTrain
    (dropSession
      { s with
        berth := BerthRecord.atEmpty
        stopSettle := none
        checkOwed := none
        departureQuiet := none
        readerA := zeroReader .a s.readerA
        readerB := zeroReader .b s.readerB })

/-! ## Arriving and stopping -/

/-- The conditions of the ARRIVING row of R58, apart from the quiet time. -/
def arrivingQuiet (s : State) : Bool :=
  s.berth.state == .arriving && s.readerA.beam == .clear && s.readerB.beam == .clear && !sessionOpen s

/-- The departure quiet time starts when the ARRIVING conditions first hold together, and stops when they end
(R58). -/
def followArrivingQuiet (s0 s : State) : State :=
  if arrivingQuiet s && !arrivingQuiet s0 then startQuiet s
  else if arrivingQuiet s0 && !arrivingQuiet s && s.berth.state != .departing then
    { s with departureQuiet := none }
  else s

/-- Entry to ARRIVING: the stop settle time starts and edge clear at last check becomes no (R33, R37). -/
def enterArriving (s : State) : State :=
  startSettle { s with berth := { s.berth with state := .arriving, edgeClear := false } }

/-- The alignment computed, where a heading is held (R39 to R43). -/
def computeAlignment (s : State) : State :=
  match s.berth.heading with
  | some h => { s with berth := align s.geo h (readerAt s h) s.berth }
  | none => s

/-- The stop count that a reader gives: its count if it is NORMAL, absent in FAULT (R38). -/
def stopCountOf (r : Reader) : Option Int := if readerNormal r then some r.count else none

/-- Entry to STOPPED with measuring reader `h`: the stop count is set and the alignment computed (R38). -/
def enterStopped (h : End) (s : State) : State :=
  computeAlignment
    { s with
      berth := { s.berth with state := .stopped, stopCount := stopCountOf (readerAt s h) }
      stopSettle := none
      checkOwed := none }

/-- The recomputation of the alignment in STOPPED (R44). -/
def recomputeIfStopped (s : State) : State := if s.berth.state = .stopped then computeAlignment s else s

/-- Whether a version 2 train has reported itself standing with a position held (R38). -/
def standingReported (b : BerthRecord) : Bool :=
  b.trainMotion == some .standing && b.trainReportedFrontX.isSome

/-- The settle decision at a quiet check of a NORMAL measuring reader (R38). -/
def settlesNormal (r : Reader) (b : BerthRecord) : Bool :=
  r.captureValid || (b.protocolVersion == some .v2 && standingReported b)

/-- The settle decision at an expiry with the measuring reader in FAULT (R38). -/
def settlesFault (b : BerthRecord) : Bool :=
  match b.protocolVersion with
  | some .v2 => standingReported b
  | some .v1 => true
  | none => false

/-- Whether a settle check is quiet (R37). -/
def quietCheck (r : Reader) (b : BerthRecord) : Bool :=
  !r.edgeSeen && (!r.directionChange || b.edgeClear)

/-- Expiry of the stop settle time in ARRIVING (R37, R38). -/
def settleInArriving (s : State) : State :=
  match s.berth.heading with
  | none => startSettle { s with berth := { s.berth with edgeClear := false } }
  | some h =>
    let r := readerAt s h
    if readerNormal r then
      let s' :=
        setReader { s with berth := { s.berth with edgeClear := !r.edgeSeen } } h (settleChecked r)
      if quietCheck r s.berth && settlesNormal r s.berth then enterStopped h s' else startSettle s'
    else
      let s' := { s with berth := { s.berth with edgeClear := false } }
      if settlesFault s.berth then enterStopped h s' else startSettle s'

/-! ## Movement (R45, R46, R54 to R56) -/

/-- Entry to CREEP (R56). -/
def enterCreep (s : State) : State :=
  setFlag .creep
    (startSettle
      { s with berth := { s.berth with state := .creep, enableSet := DoorSet.empty, quiet := false } })

/-- Entry to DEPARTING: the departure quiet time starts if no session is open (R54, R58). -/
def enterDeparting (s : State) : State :=
  let s' := { s with berth := { s.berth with state := .departing } }
  if sessionOpen s then s' else startQuiet s'

/-- Repositioning: back to ARRIVING with the alignment cleared (R46). -/
def reposition (s : State) : State :=
  enterArriving { s with berth := clearAlignment s.berth }

/-- A movement or step in CREEP ends the quiet period (R56). -/
def disturbCreep (s : State) : State :=
  startSettle { s with berth := { s.berth with quiet := false } }

/-- A movement or step in DEPARTING restarts the departure quiet time, which runs only with no session open (R58). -/
def disturbDeparting (s : State) : State := if sessionOpen s then s else startQuiet s

/-- Movement of the train, by berth state (R45). -/
def movement (s : State) : State :=
  match s.berth.state with
  | .empty => s
  | .arriving => s
  | .stopped => reposition s
  | .released => enterCreep s
  | .dispatching => if s.scl.secure then enterDeparting s else enterCreep s
  | .departing => disturbDeparting s
  | .creep => disturbCreep s

/-- Whether the count stands further from the stop count than the creep threshold (R45). -/
def beyondCreep (s : State) (count : Int) : Bool :=
  match s.berth.stopCount with
  | some c => decide (s.geo.berth.creepThreshold < (count - c).natAbs)
  | none => false

/-- The stop settle time after a step of the reader at an end, taken first where a settle check of that reader stood
due: the check is still made (R21, assumption 29). -/
def restartSettle (e : End) (s : State) : State :=
  { startSettle s with
    checkOwed := if measuring s == some e && due (settleTimer s) then some e else none }

/-- A step notice of the reader at an end, with the new count, taken at the BSQ (R19, R37, R45, R56, R58). -/
def stepNotice (e : End) (count : Int) (s : State) : State :=
  let measures := measuring s == some e
  match s.berth.state with
  | .empty => s
  | .arriving =>
    if measures || (measuring s).isNone then
      let s' := restartSettle e s
      if arrivingQuiet s' then startQuiet s' else s'
    else s
  | .stopped => if measures && beyondCreep s count then movement s else s
  | .released => if measures && beyondCreep s count then movement s else s
  | .dispatching => if measures && beyondCreep s count then movement s else s
  | .departing => if measures then disturbDeparting s else s
  | .creep => if measures then restartSettle e { s with berth := { s.berth with quiet := false } } else s

/-- A fault notice of the reader at an end: from the measuring reader it makes the alignment be computed anew while
STOPPED (R44). -/
def faultNotice (e : End) (s : State) : State :=
  if measuring s = some e then recomputeIfStopped s else s

/-- A beam notice: the end, the new state, and whether the last step was forward, if there was one (R25, R33, R34,
R37, R45, R58). -/
def beamNotice (e : End) (new : Beam) (forward : Option Bool) (s : State) : State :=
  match s.berth.state with
  | .empty => if new = .broken then enterArriving s else s
  | .arriving =>
    let s' := startSettle s
    if s.berth.heading = none ∧ new = .broken ∧ forward = some true then enterHeading e s' else s'
  | .departing =>
    if measuring s = some e then
      if new = .clear then enterEmpty s else movement s
    else s
  | .stopped => if measuring s = some e then movement s else s
  | .released => if measuring s = some e then movement s else s
  | .dispatching => if measuring s = some e then movement s else s
  | .creep => if measuring s = some e then movement s else s

/-! ## Creep (R56) -/

/-- Expiry of the stop settle time in CREEP: with the measuring reader NORMAL a settle check decides, and with it in
FAULT the train's own reports do (R56). -/
def settleInCreep (s : State) : State :=
  match s.berth.heading with
  | none => startSettle s
  | some h =>
    let r := readerAt s h
    if readerNormal r then
      startSettle
        (setReader { s with berth := { s.berth with quiet := !r.edgeSeen } } h (settleChecked r))
    else
      startSettle
        { s with
          berth := { s.berth with quiet := s.berth.trainMotion != some .moving || !sessionOpen s } }

/-! ## Requests to the BSQ: what an owner answers -/

/-- An owner's answer to a request: its result, a detail, a record for a taken read, and the state (R178). -/
structure Answer where
  result : ResultCode
  detail : Detail
  record : Option ReadRecord
  state : State

/-- The request is taken. -/
def done (s : State) : Answer := ⟨.done, .none, none, s⟩

/-- The request is refused; the state stays as it was. -/
def refuse (r : ResultCode) (s : State) : Answer := ⟨r, .none, none, s⟩

/-- The request is refused with a detail. -/
def refuseWith (r : ResultCode) (d : Detail) (s : State) : Answer := ⟨r, d, none, s⟩

/-- A taken read with its record. -/
def doneWith (rec : ReadRecord) (s : State) : Answer := ⟨.done, .none, some rec, s⟩

/-! ## ANNOUNCE (R33, R35) -/

/-- The stop count after an ANNOUNCE that changes the heading, in a record that holds a stop count (R35). -/
def stopCountAfterHeading (s : State) (h : End) : Option Int :=
  if s.berth.stopCount.isSome ∧ s.berth.heading ≠ some h then stopCountOf (readerAt s h) else s.berth.stopCount

/-- The fields an ANNOUNCE enters in the berth record (R35), the heading being handed to the readers. -/
def enterAnnounce (a : Announce) (s : State) : State :=
  enterHeading a.heading
    { s with
      berth :=
        { s.berth with
          trainId := some a.trainId
          protocolVersion := some a.version
          carCount := some a.carCount
          formationSlot := lookupFormation s.geo a
          stopCount := stopCountAfterHeading s a.heading } }

/-- Link lost becomes no: part of resuming the session (R35). -/
def resumeLink (s : State) : State := { s with berth := { s.berth with linkLost := false } }

/-- The BSQ's handling of an ANNOUNCE, by berth state and the train id held (R35). -/
def bsqAnnounce (a : Announce) (s : State) : Answer :=
  match s.berth.state with
  | .empty => done (enterArriving (enterAnnounce a s))
  | .departing => refuse .refusedState s
  | .arriving =>
    match s.berth.trainId with
    | none => done (enterAnnounce a s)
    | some id => if id = a.trainId then done (resumeLink (enterAnnounce a s)) else refuse .refusedId s
  | .stopped =>
    match s.berth.trainId with
    | none => done (computeAlignment (enterAnnounce a s))
    | some id =>
      if id = a.trainId then done (computeAlignment (resumeLink (enterAnnounce a s))) else refuse .refusedId s
  | .released => announceHeld a s
  | .dispatching => announceHeld a s
  | .creep => announceHeld a s
where
  /-- RELEASED, DISPATCHING and CREEP: the pairing stays in force, so the slot and heading must agree (R35). -/
  announceHeld (a : Announce) (s : State) : Answer :=
    match s.berth.trainId with
    | none => done (enterAnnounce a s)
    | some id =>
      if id = a.trainId ∧ lookupFormation s.geo a = s.berth.formationSlot ∧ s.berth.heading = some a.heading then
        done
          (resumeLink
            { s with
              berth := { s.berth with protocolVersion := some a.version, carCount := some a.carCount } })
      else refuse .refusedId s

/-! ## Motion reports (R36) -/

/-- The train motion that a report's fields give (R36). -/
def motionOf (stopped moving : Bool) : Option TrainMotion :=
  if moving then some .moving else if stopped then some .standing else none

/-- Whether a report that sets moving is taken as movement: the stop count is absent or the measuring reader is in
FAULT (R45). -/
def reportsAreMovement (s : State) : Bool :=
  s.berth.stopCount.isNone ||
  match s.berth.heading with
  | some h => !readerNormal (readerAt s h)
  | none => false

/-- The train-reported front x after a STOP_REPORT (R36). -/
def frontAfterReport (s : State) (r : StopReport) : Option Int :=
  if motionOf r.stopped r.moving = some .standing then
    match s.berth.heading with
    | some h => some (reportedFront s.geo h r.offset)
    | none => s.berth.trainReportedFrontX
  else none

/-- Whether the measuring reader is held and in FAULT. -/
def measuringFault (s : State) : Option End :=
  s.berth.heading.filter fun h => !readerNormal (readerAt s h)

/-- A report in ARRIVING restarts the stop settle time (R36), and with the measuring reader in FAULT it may settle the
berth: a STOP_REPORT that leaves a version 2 train STANDING, or a standing PRESENCE of a version 1 train (R38). -/
def reportInArriving (version : Version) (s : State) : State :=
  match measuringFault s with
  | some h =>
    if s.berth.protocolVersion = some version ∧ s.berth.trainMotion = some .standing then enterStopped h s
    else startSettle s
  | none => startSettle s

/-- A report whose motion may be movement, in the states that have left ARRIVING (R45). -/
def reportMoves (s : State) : Bool := s.berth.trainMotion == some .moving && reportsAreMovement s

/-- The BSQ's handling of a STOP_REPORT (R36, R38, R44, R45). -/
def bsqStopReport (r : StopReport) (s : State) : Answer :=
  if s.berth.state = .empty then refuse .refusedState s
  else if r.offset < -5000 ∨ 5000 < r.offset then refuse .refusedRange s
  else
    let s' :=
      { s with
        berth :=
          { s.berth with
            trainMotion := motionOf r.stopped r.moving
            trainReportedFrontX := frontAfterReport s r } }
    if s.berth.state = .arriving then done (reportInArriving .v2 s')
    else if reportMoves s' then done (movement s')
    else if s'.berth.trainMotion ≠ s.berth.trainMotion ∨ s'.berth.trainReportedFrontX ≠ s.berth.trainReportedFrontX then
      done (recomputeIfStopped s')
    else done s'

/-- The BSQ's handling of a PRESENCE (R36, R38, R45). -/
def bsqPresence (p : Presence) (s : State) : Answer :=
  if s.berth.state = .empty then refuse .refusedState s
  else
    let s' := { s with berth := { s.berth with trainMotion := motionOf p.stopped p.moving } }
    if s.berth.state = .arriving then done (reportInArriving .v1 s')
    else if reportMoves s' then done (movement s')
    else done s'

/-! ## Release (R49, R50) -/

/-- Check 2 of R49. -/
def alignmentPermits (s : State) : Bool :=
  s.berth.outcome == some .aligned ||
  (s.berth.outcome == some .misaligned && s.berth.partialAuthorised &&
    match berthFormation s with
    | some f => f.partialPermitted
    | none => false)

/-- Check 3 of R49: the authorisation is present and equals the train id. -/
def authorised (b : BerthRecord) : Bool := b.authorisation.isSome && b.authorisation == b.trainId

/-- The checks of R49; `none` when every check passes. -/
def releaseRefusal (s : State) : Option ResultCode :=
  if ¬(s.berth.state = .stopped ∨ s.berth.state = .dispatching) then some .refusedState
  else if alignmentPermits s = false then some .refusedAlignment
  else if authorised s.berth = false then some .refusedId
  else none

/-- Whether a door state lets a door join the enable set (R50). -/
def joinsEnableSet : DoorState → Bool
  | .closedLocked => true
  | .opened => true
  | _ => false

/-- The enable set of a grant (R50). -/
def grantSet (s : State) : DoorSet :=
  Tab.ofFn fun d =>
    (pairedDoors s.berth).contains d && fitted s d && !(doorAt s d).cutOut && joinsEnableSet (doorAt s d).state

/-- The grant of a release (R50). -/
def grant (s : State) : State :=
  let set := grantSet s
  handSummary
    { s with
      berth :=
        { s.berth with
          state := .released
          enableSet := set
          gapWatch := DoorSet.union s.berth.gapWatch set
          closeRequested := false } }

/-- A release request at the BSQ (R49, R50). -/
def bsqRelease (s : State) : Answer :=
  match releaseRefusal s with
  | some r => refuse r s
  | none => done (grant s)

/-! ## Opening (R52) -/

/-- Door states that an open request commands (R52). -/
def openRequestTakes : DoorState → Bool
  | .closedLocked => true
  | .closeWait => true
  | .closing => true
  | .reopening => true
  | _ => false

/-- The doors that an open request names: the whole enable set without a car list, else its doors paired with train
doors of the named cars (R52). -/
def openTargets (cars : List Nat) (s : State) : List Door :=
  allDoors.filter fun d =>
    s.berth.enableSet.get d && openRequestTakes (doorAt s d).state &&
    (cars.isEmpty || cars.any fun c => (pairedDoorsOfCar (berthFormation s) s.berth c).contains d)

/-- The car count of the formation, 0 where no formation is held. -/
def formationCars (s : State) : Nat :=
  match berthFormation s with
  | some f => f.carCount
  | none => 0

/-- A taken open request (R52). -/
def takeOpenRequest (cars : List Nat) (s : State) : State :=
  let s' := { s with berth := { s.berth with closeRequested := false } }
  forDoors (openTargets cars s') openCommand s'

/-- An open request at the BSQ (R52). -/
def bsqOpen (cars : List Nat) (s : State) : Answer :=
  if s.berth.state ≠ .released then refuse .refusedState s
  else if authorised s.berth = false then refuse .refusedId s
  else if cars.any (fun c => decide (c < 1 ∨ formationCars s < c)) then refuse .refusedRange s
  else done (takeOpenRequest cars s)

/-! ## Closing (R53) -/

/-- Close requested set (R53). -/
def requestClose (s : State) : State := { s with berth := { s.berth with closeRequested := true } }

/-- A CLOSE_REQ at the BSQ (R53). -/
def bsqClose (s : State) : Answer :=
  if perFireActive s.rlm.list then refuse .refusedState s
  else
    match s.berth.state with
    | .released => done (dispatchIfClosed (closeEnabledDoors (requestClose s)))
    | .creep => done (closeOpenDoors (requestClose s))
    | .empty => refuse .refusedState s
    | .arriving => refuse .refusedState s
    | .stopped => refuse .refusedState s
    | .dispatching => refuse .refusedState s
    | .departing => refuse .refusedState s

/-- A LOCAL_CLOSE at the BSQ (R53). -/
def bsqLocalClose (s : State) : Answer :=
  if perFireActive s.rlm.list then refuse .refusedState s
  else
    match s.berth.state with
    | .released => done (dispatchIfClosed (closeOpenDoors (requestClose s)))
    | .creep => done (closeOpenDoors (requestClose s))
    | .empty => done (closeOpenDoors s)
    | .arriving => done (closeOpenDoors s)
    | .stopped => done (closeOpenDoors s)
    | .dispatching => done (closeOpenDoors s)
    | .departing => done (closeOpenDoors s)

/-! ## Authorisation, partial release, BERTH_CLEAR -/

/-- The authorisation entered or made absent (R47). -/
def setAuthorisation (id : Option Nat) (s : State) : State :=
  { s with berth := { s.berth with authorisation := id } }

/-- BERTH_AUTHORISE at the BSQ (R47). -/
def bsqAuthorise (id : Nat) (s : State) : Answer :=
  if id = 0 then refuse .refusedRange s else done (setAuthorisation (some id) s)

/-- PARTIAL_RELEASE_AUTHORISE at the BSQ (R48). -/
def bsqPartialAuthorise (s : State) : Answer :=
  if s.berth.state ≠ .stopped then refuse .refusedState s
  else if s.berth.outcome ≠ some .misaligned then refuse .refusedState s
  else
    match berthFormation s with
    | some f =>
      if f.partialPermitted then done { s with berth := { s.berth with partialAuthorised := true } }
      else refuse .refusedAlignment s
    | none => refuse .refusedAlignment s

/-- BERTH_CLEAR at the BSQ (R57). -/
def bsqBerthClear (s : State) : Answer :=
  if s.berth.state = .creep ∧ s.berth.quiet then
    done (enterArriving { s with berth := { clearAlignment s.berth with quiet := false, closeRequested := false } })
  else refuse .refusedState s

/-! ## Train emergency (R113) -/

/-- The paired doors of the car a train emergency names; car 0 is the whole train (R113). -/
def emergencyDoorsNamed (car : Nat) (s : State) : List Door :=
  if car = 0 then pairedDoors s.berth else pairedDoorsOfCar (berthFormation s) s.berth car

/-- Door states that bar a door from a train emergency's open command (R113). -/
def emergencyBars : DoorState → Bool
  | .isolated => true
  | .fault => true
  | .absent => true
  | _ => false

/-- The doors a train emergency commands open (R113). -/
def emergencyTargets (car : Nat) (s : State) : List Door :=
  allDoors.filter fun d =>
    (emergencyDoorsNamed car s).contains d && fitted s d && !emergencyBars (doorAt s d).state && !(doorAt s d).cutOut

/-- Doors added to the gap watch set (R113). -/
def watchDoors (l : List Door) (s : State) : State :=
  { s with berth := { s.berth with gapWatch := DoorSet.union s.berth.gapWatch (Tab.ofFn fun d => l.contains d) } }

/-- A TRAIN_EMERGENCY at the RLM (R113). -/
def rlmTrainEmergency (car : Nat) (s : State) : Answer :=
  if ¬(s.berth.state = .stopped ∨ s.berth.state = .released ∨ s.berth.state = .dispatching) then
    refuse .refusedState s
  else if s.berth.pairing.any (fun e => e.paired) = false then refuse .refusedState s
  else if formationCars s < car then refuse .refusedRange s
  else
    let s' := trigger (.train car) s
    if activeOf s'.rlm.list (.train car) then
      let targets := emergencyTargets car s'
      done (watchDoors targets (forDoors targets openCommand s'))
    else done s'

end Sys2Proof.Machine
end

