-- ==== Sys2Proof/Machine/Reports.lean ====
section
/-! DEFINITION. The end of a command: what the owners have changed is handed to the blocks that hold copies (the MAC,
the SSC, the SCL and the three ports), the SCL acts on its causes (R132, R134), and the replies and reports of
the command are sent (R162, R163, R168, R173). Everything is decided by comparing the state before the command with
the state after its owners have changed, so a value that did not change is handed to nobody. -/

namespace Sys2Proof.Machine

/-! ## Copies handed by the owners -/

/-- The BSQ hands the MAC a change of berth state; leaving EMPTY ends a running test (R138, R150). -/
def handMac (s0 s : State) : State :=
  if s.berth.state = s0.berth.state then s
  else
    { s with
      mac :=
        { s.mac with
          berthView := s.berth.state
          test := if s.berth.state = .empty then s.mac.test else abortTest .berth s.mac.test } }

/-- The door states that the DLC hands the SSC (R80, R90). -/
def doorStatesOf (s : State) : Tab 40 DoorState := Tab.ofFn fun d => (doorAt s d).state

/-- The BSQ and DLC hand the SSC the tracking inputs that have changed (R80, R90). -/
def handSsc (s0 s : State) : State :=
  if s.berth.state = s0.berth.state ∧ doorStatesOf s = doorStatesOf s0 then s
  else { s with ssc := { s.ssc with berthView := s.berth.state, doorViews := doorStatesOf s } }

/-! ## The SCL (R127, R132, R134) -/

/-- The action on the cause set after an event (R132). -/
def actOnCauses (confirmTime : Nat) (c : CauseSet) (l : Scl) : Scl :=
  if causesEmpty c then
    if !l.secure && l.confirm.isNone then { l with confirm := some confirmTime } else l
  else { l with secure := false, confirm := none }

/-- The permit that secure and the berth state give (R134). -/
def permitOf (secure : Bool) (b : BerthState) : Bool := secure && b == .dispatching

/-- The SCL takes a new input record: causes recomputed, acted on, the permit re-evaluated (R127 to R134). -/
def sclTake (i : SclInput) (confirmTime : Nat) (l : Scl) : Scl :=
  let c := causesOf i
  let l' := actOnCauses confirmTime c { l with input := i, causes := c }
  { l' with permit := permitOf l'.secure i.berthState }

/-- The owners hand the SCL the inputs that have changed (R127). -/
def handScl (s0 s : State) : State :=
  let i := sclInputOf s
  if i = sclInputOf s0 then s
  else { s with scl := sclTake i s.geo.timers.secureConfirm s.scl }

/-! ## The ports' values -/

/-- What the BSQ and SCL hand the TLP (R161). -/
def trainValuesOf (s : State) : TrainValues where
  berthState := s.berth.state
  heading := s.berth.heading
  outcome := s.berth.outcome
  positionSource := s.berth.positionSource
  tEff := s.berth.tEff
  worstError := s.berth.worstError
  adviceError := s.berth.adviceError
  secure := s.scl.secure
  permit := s.scl.permit

/-- What the SCL, BSQ and RLM hand the ILP (R165). -/
def ilValuesOf (s : State) : IlValues where
  secure := s.scl.secure
  permit := s.scl.permit
  causes := s.scl.causes
  berthState := s.berth.state
  trainId := s.berth.trainId
  emergencyActive := anyActive s.rlm.list
  creepAlarm := s.berth.state == .creep

/-- What the owners hand the SLP for STATION_STATUS (R173). -/
def stationValuesOf (s : State) : StationValues where
  secure := s.scl.secure
  causes := s.scl.causes
  permit := s.scl.permit
  berthState := s.berth.state
  trainId := s.berth.trainId
  outcome := s.berth.outcome
  mode := s.mac.mode
  localSwitch := s.mac.localSwitch
  maintenanceKey := s.mac.maintenanceKey
  restoreKey := s.mac.restoreKey
  test := s.mac.test
  lastRefusal := s.mac.lastRefusal
  refusalCount := s.mac.refusalCount
  trainLink := s.tlp.link
  session := s.tlp.session
  sessionVersion := s.tlp.sessionVersion
  sessionTrainId := s.tlp.sessionTrainId
  ilLink := s.ilp.link
  marks := s.dlc.marks
  survey := s.dlc.survey

/-! ## Sending a report -/

/-- BERTH_STATUS sent with the values the TLP holds; its timer is restarted (R162). -/
def sendBerthStatus (s : State) : State :=
  let s' := sendTrainReport (.berthStatus s.tlp.sessionTrainId s.tlp.values) s
  { s' with tlp := { s'.tlp with statusTimer := some Config.berthStatusPeriod } }

/-- A mark as the session's version sends it (R163). -/
def sentMark (v : Option Version) (m : DoorMark) : SentMark :=
  match v with
  | some .v1 => .v1 (m == .served)
  | _ => .v2 m

/-- DOOR_SUMMARY sent with the held summary (R163). -/
def sendSummary (s : State) : State :=
  match s.tlp.heldSummary with
  | some l =>
    sendTrainReport
      (.doorSummary s.tlp.sessionTrainId
        (l.map fun e => ⟨e.trainDoor, sentMark s.tlp.sessionVersion e.mark, e.paired⟩)) s
  | none => s

/-- PLATFORM_STATE sent with the values the ILP holds; its timer is restarted (R168). -/
def sendPlatformState (s : State) : State :=
  let s' := sendIlReport (.platformState s.ilp.values) s
  { s' with ilp := { s'.ilp with reportTimer := some Config.platformStatePeriod } }

/-- STATION_STATUS sent as the SLP holds it; its timer is restarted (R173). -/
def sendStationStatus (s : State) : State :=
  let s' := sendStationReport (.stationStatus s.slp.flags s.slp.enables s.slp.values) s
  { s' with slp := { s'.slp with statusTimer := some Config.stationStatusPeriod } }

/-! ## The ports at the end of a command -/

/-- Whether a change makes BERTH_STATUS be sent at once (R162). -/
def trainChange (old new : TrainValues) : Bool :=
  old.berthState != new.berthState || old.outcome != new.outcome || old.secure != new.secure ||
  old.permit != new.permit

/-- Whether a change makes PLATFORM_STATE be sent at once (R168). -/
def ilChange (old new : IlValues) : Bool :=
  old.secure != new.secure || old.permit != new.permit || old.berthState != new.berthState ||
  old.emergencyActive != new.emergencyActive || old.creepAlarm != new.creepAlarm

/-- The TLP stores what has changed (R161). -/
def storeTrainValues (s0 s : State) : State :=
  if trainValuesOf s = trainValuesOf s0 then s
  else { s with tlp := { s.tlp with values := trainValuesOf s } }

/-- The TLP at the end of a command: BERTH_STATUS on a change or where the command calls for it, then a summary handed
in the command (R161 to R163). No report leaves a part whose warm restart is due (R174). -/
def handTlp (due : Bool) (s0 s : State) : State :=
  let s' := storeTrainValues s0 s
  if sessionOpen s' && !s'.restartDue then
    let s' := if due || trainChange (trainValuesOf s0) (trainValuesOf s) then sendBerthStatus s' else s'
    if s'.summaryDue then sendSummary s' else s'
  else s'

/-- The ILP stores what has changed (R165). -/
def storeIlValues (s0 s : State) : State :=
  if ilValuesOf s = ilValuesOf s0 then s
  else { s with ilp := { s.ilp with values := ilValuesOf s } }

/-- The ILP at the end of a command: PLATFORM_STATE on a change, where the command calls for it, or when the link has
returned (R166, R168). -/
def handIlp (due : Bool) (s0 s : State) : State :=
  let s' := storeIlValues s0 s
  let returned := s0.ilp.link == .lost
  if s'.ilp.link == .up && !s'.restartDue && (due || returned || ilChange (ilValuesOf s0) (ilValuesOf s)) then
    sendPlatformState s'
  else s'

/-- The SLP stores what has changed (R173). -/
def storeStationValues (s0 s : State) : State :=
  if stationValuesOf s = stationValuesOf s0 then s
  else { s with slp := { s.slp with values := stationValuesOf s } }

/-- The SLP at the end of a command: STATION_STATUS where the command calls for it, when an enabled flag has gone from
clear to set, or when the link has returned (R170, R173). -/
def handSlp (due : Bool) (s0 s : State) : State :=
  let s' := storeStationValues s0 s
  let returned := s0.slp.link == .lost
  if s'.slp.link == .up && !s'.restartDue && (due || returned || enabledFlagRaised s0 s) then
    sendStationStatus s'
  else s'

/-- Which reports a command calls for beside those that changes make. -/
structure Due where
  train : Bool
  interlocking : Bool
  station : Bool
deriving DecidableEq, Repr

/-- No report called for. -/
def Due.none : Due := ⟨false, false, false⟩

/-- What the blocks hand to one another before anything is sent. -/
def handCopies (s0 s : State) : State :=
  handScl s0 (handSsc s0 (handMac s0 (followArrivingQuiet s0 s)))

/-- The reports at the end of a command, train link first. -/
def handPorts (due : Due) (s0 s : State) : State :=
  handSlp due.station s0 (handIlp due.interlocking s0 (handTlp due.train s0 s))

/-- The end of a command that carries no request: `s0` is the state before it, `s` the state its owners left. -/
def finish (due : Due) (s0 s : State) : State := handPorts due s0 (handCopies s0 s)

/-- The end of a link request: its one REPLY goes before every report the request causes (R155, R178). -/
def finishRequest (f : Frame) (kind : Byte) (due : Due) (s0 : State) (a : Answer) : State :=
  handPorts due s0 (sendReply f ⟨kind, a.result, a.detail, a.record⟩ (handCopies s0 a.state))

end Sys2Proof.Machine
end

