-- ==== Sys2Proof/Machine/Links.lean ====
section
/-! DEFINITION. How a request frame is taken on each link: supervision, form, the MAC gate, the session and the owner's
own checks (R145, R155, R167, R171, R177), and the one REPLY. -/

namespace Sys2Proof.Machine

/-- What the gate and the port know of a train request's kind (R146). -/
structure TrainKind where
  code : Byte
  /-- Defined for version 2 only. -/
  version2Only : Bool
  /-- Passes the gate in AUTOMATIC only. -/
  automaticOnly : Bool
  /-- ANNOUNCE: needs no session and no agreement with the session's version. -/
  opensSession : Bool
deriving DecidableEq, Repr

/-- The version that check 3 of R155 judges a kind by: the session version while the session is OPEN, the header
version while it is NONE. -/
def judgedVersion (f : Frame) (s : State) : Version :=
  if sessionOpen s then s.tlp.sessionVersion.getD f.version else f.version

/-- Check 3 of R155 fails: the kind is not defined for the version, or the header version differs from that of the
open session. -/
def versionRefused (k : TrainKind) (f : Frame) (s : State) : Bool :=
  (k.version2Only && judgedVersion f s == .v1) ||
  (!k.opensSession && sessionOpen s && judgedVersion f s != f.version)

/-- The checks of R155 down to the session, then the owner. -/
def trainAnswer {α : Type} (k : TrainKind) (f : Frame) (form : Version → List Byte → Option α)
    (owner : α → State → Answer) (s : State) : Answer :=
  if f.link ≠ .train then refuse .refusedAuthority s
  else
    match form f.version f.payload with
    | none => refuse .refusedRange s
    | some a =>
      if versionRefused k f s then refuse .refusedUnsupported s
      else if k.automaticOnly ∧ s.mac.mode ≠ .automatic then refuse .refusedMode s
      else if ¬k.opensSession ∧ sessionOpen s = false then refuse .refusedState s
      else owner a s

/-- A train request taken whole: a frame that arrives with a warm restart due is discarded without reply (R174). An
ANNOUNCE that is taken itself calls for a BERTH_STATUS (R156). -/
def trainRequest {α : Type} (k : TrainKind) (f : Frame) (form : Version → List Byte → Option α)
    (owner : α → State → Answer) (s : State) : State :=
  let s0 := fresh s
  if s.restartDue then s0
  else
    let a := trainAnswer k f form owner (receive f.link s0)
    finishRequest f k.code ⟨k.opensSession && a.result == .done, false, false⟩ s0 a

/-- The gate and the form of an interlocking request, then the owner (R167). -/
def interlockingAnswer {α : Type} (f : Frame) (form : List Byte → Option α) (owner : α → State → Answer)
    (s : State) : Answer :=
  if f.link ≠ .interlocking then refuse .refusedAuthority s
  else
    match form f.payload with
    | none => refuse .refusedRange s
    | some a => owner a s

/-- An interlocking request taken whole. `poll` says that the request itself calls for a PLATFORM_STATE, which it does
when it is taken. -/
def interlockingRequest {α : Type} (code : Byte) (poll : Bool) (f : Frame) (form : List Byte → Option α)
    (owner : α → State → Answer) (s : State) : State :=
  let s0 := fresh s
  if s.restartDue then s0
  else
    let a := interlockingAnswer f form owner (receive f.link s0)
    finishRequest f code ⟨false, poll && a.result == .done, false⟩ s0 a

/-- The gate and the form of a station request, then the owner (R145, R171, R177). `maintenance` marks the kinds taken
in MAINTENANCE only. -/
def stationAnswer {α : Type} (maintenance : Bool) (f : Frame) (form : List Byte → Option α)
    (owner : α → State → Answer) (s : State) : Answer :=
  if f.link ≠ .station then refuse .refusedAuthority s
  else if maintenance ∧ s.mac.mode ≠ .maintenance then refuse .refusedMode s
  else
    match form f.payload with
    | none => refuse .refusedRange s
    | some a => owner a s

/-- A station request taken whole. -/
def stationRequest {α : Type} (code : Byte) (maintenance : Bool) (f : Frame) (form : List Byte → Option α)
    (owner : α → State → Answer) (s : State) : State :=
  let s0 := fresh s
  if s.restartDue then s0
  else finishRequest f code Due.none s0 (stationAnswer maintenance f form owner (receive f.link s0))

/-- An event that is not a link request: what it does to its owners, then the end of the command. -/
def event (effect : State → State) (s : State) : State :=
  let s0 := fresh s
  finish Due.none s0 (effect s0)

/-- An event that also calls for reports. -/
def eventWith (due : Due) (effect : State → State) (s : State) : State :=
  let s0 := fresh s
  finish due s0 (effect s0)

end Sys2Proof.Machine
end

