-- ==== Sys2Proof/Machine/Modes.lean ====
section
/-! DEFINITION. The MAC: mode changes, keys and console lines, console requests and DOOR_TEST (chapter 8). -/

namespace Sys2Proof.Machine

/-- The test record once the mode is the one given: a RUNNING test ends when the mode leaves MAINTENANCE (R150). -/
def testInMode (old new : PlatformMode) (t : Option TestRecord) : Option TestRecord :=
  if old = .maintenance ∧ new ≠ .maintenance then abortTest .mode t else t

/-- The mode becomes the one given (R143). -/
def setMode (m : PlatformMode) (s : State) : State :=
  { s with mac := { s.mac with mode := m, test := testInMode s.mac.mode m s.mac.test } }

/-- The mode that a LOCAL switch position asks for (R139). -/
def modeOfSwitch : SwitchPosition → PlatformMode
  | .atLocal => .localMode
  | .atRemote => .automatic

/-- An edge of the LOCAL switch (R139). -/
def takeSwitchEdge (p : SwitchPosition) (s : State) : State :=
  let s' := { s with mac := { s.mac with localSwitch := p } }
  if s.mac.localSwitch = p then s
  else
    match s.mac.mode with
    | .automatic => setMode (modeOfSwitch p) s'
    | .localMode => setMode (modeOfSwitch p) s'
    | .maintenance => s'
    | .fire => s'

/-- MODE_SET at the MAC (R140). -/
def ownerModeSet (m : PlatformMode) (s : State) : Answer :=
  if m = .fire then refuse .refusedRange s
  else if s.mac.mode = .fire then refuse .refusedMode s
  else if m = .maintenance ∧ s.mac.mode ≠ .maintenance ∧ s.mac.maintenanceKey = false then refuse .refusedKey s
  else if m = .maintenance ∧ s.mac.mode ≠ .maintenance ∧ s.mac.berthView ≠ .empty then refuse .refusedState s
  else done (setMode m s)

/-- A change of the MAINTENANCE key: its removal in MAINTENANCE makes the mode LOCAL (R141). -/
def takeMaintenanceKey (on : Bool) (s : State) : State :=
  let s' := { s with mac := { s.mac with maintenanceKey := on } }
  if s.mac.maintenanceKey = true ∧ on = false ∧ s.mac.mode = .maintenance then setMode .localMode s' else s'

/-- A change of the RESTORE key (R141). -/
def takeRestoreKey (on : Bool) (s : State) : State := { s with mac := { s.mac with restoreKey := on } }

/-- The FIRE line handed to the MAC as asserted (R142). -/
def macFireAssert (s : State) : State :=
  setMode .fire { s with mac := { s.mac with fireLine := true } }

/-- The FIRE line handed to the MAC as not asserted (R142). -/
def macFireDeassert (s : State) : State :=
  let s' := { s with mac := { s.mac with fireLine := false } }
  if s.mac.mode = .fire then setMode .localMode s' else s'

/-! ## PER and FIRE lines -/

/-- Assertion of the PER line (R111). -/
def takePerAssert (s : State) : State :=
  if s.rlm.perLine then s else lineTrigger .per { s with rlm := { s.rlm with perLine := true } }

/-- De-assertion of the PER line (R114). -/
def takePerDeassert (s : State) : State :=
  if s.rlm.perLine then
    clearSources (fun src => src == .per) { s with rlm := { s.rlm with perLine := false } }
  else s

/-- Assertion of the FIRE line: handed to the MAC whether or not a record is made, and a trigger (R111, R142). -/
def takeFireAssert (s : State) : State :=
  if s.rlm.fireLine then s
  else lineTrigger .fire (macFireAssert { s with rlm := { s.rlm with fireLine := true } })

/-- De-assertion of the FIRE line (R114, R142). -/
def takeFireDeassert (s : State) : State :=
  if s.rlm.fireLine then
    clearSources (fun src => src == .fire) (macFireDeassert { s with rlm := { s.rlm with fireLine := false } })
  else s

/-! ## Console buttons (R147, R148) -/

/-- Whether a button stands pressed. -/
def buttonPressed (m : Mac) : Button → Bool
  | .localOpen => m.localOpenPressed
  | .localClose => m.localClosePressed
  | .forceClose => m.forceClosePressed

/-- A button's stored level. -/
def setButton (b : Button) (pressed : Bool) (m : Mac) : Mac :=
  match b with
  | .localOpen => { m with localOpenPressed := pressed }
  | .localClose => { m with localClosePressed := pressed }
  | .forceClose => { m with forceClosePressed := pressed }

/-- A console request refused: its button, code and device time, and the count (R148). -/
def consoleRefused (b : Button) (code : ResultCode) (s : State) : State :=
  { s with
    mac :=
      { s.mac with
        lastRefusal := some ⟨b, code, s.rlm.deviceTime⟩
        refusalCount := min 255 (s.mac.refusalCount + 1) } }

/-- A button press: stored, and in LOCAL handed on; a refusal at the gate or by the owner is recorded (R147, R148). A
button already pressed gives no request. -/
def pressButton (b : Button) (owner : State → Answer) (s : State) : State :=
  if buttonPressed s.mac b then s
  else
    let s' := { s with mac := setButton b true s.mac }
    if s.mac.mode ≠ .localMode then consoleRefused b .refusedMode s'
    else
      let a := owner s'
      if a.result = .done then a.state else consoleRefused b a.result s'

/-- A button's release (R147). -/
def releaseButton (b : Button) (s : State) : State := { s with mac := setButton b false s.mac }

/-- LOCAL_OPEN by berth state (R148): a release request which, granted, acts at once as an open request, or an open
request. -/
def bsqLocalOpen (s : State) : Answer :=
  match s.berth.state with
  | .stopped => releaseThenOpen s
  | .dispatching => releaseThenOpen s
  | .released => bsqOpen [] s
  | .empty => refuse .refusedState s
  | .arriving => refuse .refusedState s
  | .departing => refuse .refusedState s
  | .creep => refuse .refusedState s
where
  /-- A release request; the grant goes on to act as an open request in RELEASED (R50). -/
  releaseThenOpen (s : State) : Answer :=
    let a := bsqRelease s
    if a.result = .done then bsqOpen [] a.state else a

/-! ## FORCE_CLOSE (R72) -/

/-- A taken FORCE_CLOSE of one door. -/
def forceCloseDoor (d : Door) (s : State) : State := changeDoor d (takeForceClose s.geo.timers) s

/-- FORCE_CLOSE from the station (R72). -/
def ownerForceClose (number : Nat) (s : State) : Answer :=
  match doorOfNumber number with
  | none => refuse .refusedRange s
  | some d =>
    if perFireActive s.rlm.list then refuse .refusedState s
    else if (doorAt s d).state ≠ .closeBlocked then refuse .refusedState s
    else if forceCloseAllowed (doorwayOf s d) (doorAt s d) = false then refuseWith .refusedState .doorway s
    else done (forceCloseDoor d s)

/-- The doors that the console FORCE_CLOSE button moves (R72). -/
def forceCloseTargets (s : State) : List Door :=
  if perFireActive s.rlm.list then []
  else
    allDoors.filter fun d =>
      (doorAt s d).state == .closeBlocked && forceCloseAllowed (doorwayOf s d) (doorAt s d)

/-- The console FORCE_CLOSE button at the DLC: it is taken whatever doors it finds (R72, R148). -/
def dlcForceCloseButton (s : State) : Answer := done (forDoors (forceCloseTargets s) forceCloseDoor s)

/-! ## DOOR_TEST (R149) -/

/-- Whether a test is RUNNING. -/
def testRunning (m : Mac) : Bool :=
  match m.test with
  | some t => t.state == .running
  | none => false

/-- DOOR_TEST at the MAC: an open command and then a close command in the same event (R149). -/
def ownerDoorTest (number : Nat) (s : State) : Answer :=
  match doorOfNumber number with
  | none => refuse .refusedRange s
  | some d =>
    if s.mac.berthView ≠ .empty then refuse .refusedState s
    else if testRunning s.mac then refuse .refusedState s
    else if ¬(fitted s d = true ∧ (doorAt s d).state = .closedLocked) then refuse .refusedState s
    else if perFireActive s.rlm.list then refuse .refusedState s
    else
      done
        (closeCommand d
          (openCommand d { s with mac := { s.mac with test := some ⟨d, .running, none⟩ } }))

end Sys2Proof.Machine
end

