-- ==== Sys2Proof/Machine/Readers.lean ====
section
/-! DEFINITION. The position readers: line transitions, counting, capture at the beam, fault and READER_RESET
(chapter 2). -/

namespace Sys2Proof.Machine

/-! ## One reader record -/

/-- What a change of lines is: a valid transition with its physical direction, an illegal one, or no change
(R17). -/
inductive Transition where
  | none
  | valid (towards : End)
  | illegal
deriving DecidableEq, Repr

/-- The transition between two line states (R17). -/
def transitionOf (old new : LineState) : Transition :=
  if new = old then .none
  else if new = old + 1 then .valid .b
  else if old = new + 1 then .valid .a
  else .illegal

/-- A counted step (R19). -/
def countStep (dir : End) (r : Reader) : Reader :=
  { r with
    count := if dir = r.sense then r.count + 1 else r.count - 1
    edgeSeen := true
    directionChange := r.directionChange || (r.lastStep != .none && r.lastStep != .towards dir)
    lastStep := .towards dir }

/-- Whether a step in a direction is refused by saturation (R20). -/
def stepRefused (dir : End) (r : Reader) : Bool :=
  if dir = r.sense then r.count == Config.countMax else r.count == Config.countMin

/-- Entry to FAULT at the record (R26). -/
def faultReader (cause : ReaderFaultCause) (r : Reader) : Reader :=
  { r with faultState := .fault, faultCause := some cause, captureValid := false }

/-- An illegal transition's count, saturating at 255 (R17). -/
def countIllegal (r : Reader) : Reader := { r with illegalCount := min 255 (r.illegalCount + 1) }

/-- Whether a beam break makes a capture: the reader NORMAL and last step forward or NONE (R23). -/
def captures (r : Reader) : Bool := readerNormal r && lastForward r != some false

/-- The record after a beam break (R23). -/
def breakBeam (r : Reader) : Reader :=
  if captures r then { r with capture := r.count, captureValid := true, beam := .broken }
  else { r with beam := .broken }

/-- Whether a beam clear cancels the capture: the reader NORMAL and last step backward (R24). -/
def cancels (r : Reader) : Bool := readerNormal r && lastForward r == some false

/-- The record after a beam clear (R24); in FAULT the clear leaves capture valid. -/
def clearBeam (r : Reader) : Reader :=
  if cancels r then { r with captureValid := false, beam := .clear } else { r with beam := .clear }

/-- A taken READER_RESET, the lines and the beam being taken at their present levels (R28). -/
def resetReader (e : End) (r : Reader) : Reader :=
  { zeroReader e r with faultState := .normal, faultCause := none }

/-- A reader as a start leaves it, from the levels of its inputs (R31): FAULT with cause HEALTH if its health line is
low (R27). -/
def startReader (e : End) (l : ReaderLevels) : Reader :=
  { Reader.reset e with
    lineState := l.lines
    health := l.health
    beam := l.beam
    faultState := if l.health then .normal else .fault
    faultCause := if l.health then none else some .health }

/-! ## Events at a reader -/

/-- A reader enters FAULT: its record, the attention flag, and the notice to the BSQ (R26). -/
def enterReaderFault (e : End) (cause : ReaderFaultCause) (s : State) : State :=
  faultNotice e (setFlag (readerFlag e) (setReader s e (faultReader cause (readerAt s e))))

/-- A valid transition of a NORMAL reader: counted and handed on, or refused by saturation (R19, R20). -/
def offerStep (e : End) (dir : End) (s : State) : State :=
  let r := readerAt s e
  if stepRefused dir r then
    let s' := setReader s e { r with saturated := true }
    if r.captureValid then enterReaderFault e .saturated s' else s'
  else
    let r' := countStep dir r
    stepNotice e r'.count (setReader s e r')

/-- A change of a reader's lines (R17). -/
def takeLines (e : End) (new : LineState) (s : State) : State :=
  let r := readerAt s e
  match transitionOf r.lineState new with
  | .none => s
  | .valid dir =>
    let s' := setReader s e { r with lineState := new }
    if readerNormal r then offerStep e dir s' else s'
  | .illegal =>
    let r' := countIllegal { r with lineState := new }
    let s' := setReader s e r'
    if readerNormal r ∧ r'.illegalCount = Config.illegalLimit then enterReaderFault e .illegal s' else s'

/-- A beam break at an end (R23, R25). -/
def takeBeamBreak (e : End) (s : State) : State :=
  let r := readerAt s e
  if r.beam = .broken then s
  else beamNotice e .broken (lastForward r) (setReader s e (breakBeam r))

/-- A beam clear at an end (R24, R25). -/
def takeBeamClear (e : End) (s : State) : State :=
  let r := readerAt s e
  if r.beam = .clear then s
  else beamNotice e .clear (lastForward r) (setReader s e (clearBeam r))

/-- A health line going low (R27). -/
def takeHealthDrop (e : End) (s : State) : State :=
  let r := readerAt s e
  let s' := setReader s e { r with health := false }
  if r.health ∧ readerNormal r then enterReaderFault e .health s' else s'

/-- A health line returning high: the fault state stays (R27). -/
def takeHealthRise (e : End) (s : State) : State := setReader s e { readerAt s e with health := true }

/-- READER_RESET (R28). -/
def ownerReaderReset (e : End) (s : State) : Answer :=
  if s.berth.state ≠ .empty then refuse .refusedState s
  else if (readerAt s e).health = false then refuseWith .refusedState .health s
  else done (setReader s e (resetReader e (readerAt s e)))

/-- BERTH_READ: the berth record and both reader records, then each reader's direction change is cleared (R22,
R171). -/
def ownerBerthRead (s : State) : Answer :=
  doneWith (.berth s.berth s.readerA s.readerB)
    { s with
      readerA := { s.readerA with directionChange := false }
      readerB := { s.readerB with directionChange := false } }

end Sys2Proof.Machine
end

