-- ==== Sys2Proof/Machine/Sensing.lean ====
section
/-! DEFINITION. The sensing scanner: settling, learning, occupancy, tracking, the rail check, relearn and the notices
handed to the door records (chapter 5). -/

namespace Sys2Proof.Machine

/-! ## One channel record -/

/-- Entry to SETTLING (R89). -/
def enterSettling (r : ChannelRecord) : ChannelRecord :=
  { r with
    state := .settling
    baseline := 0
    learnSum := 0
    learnCount := 0
    consecutive := 0
    railCount := 0
    occupied := false }

/-- Entry to OFF: the baseline keeps its value (R100). -/
def enterOff (r : ChannelRecord) : ChannelRecord :=
  { r with
    state := .off
    occupied := false
    consecutive := 0
    learnSum := 0
    learnCount := 0
    railCount := 0 }

/-- Entry to FAULT: baseline, learn sum and learn count keep their values (R97). -/
def enterChannelFault (r : ChannelRecord) : ChannelRecord :=
  { r with state := .fault, occupied := false, consecutive := 0 }

/-- Whether a sample stands at a rail (R96). -/
def atRail (x : Sample) : Bool := x.val == 0 || x.val == 1023

/-- The rail count after a sample (R96). -/
def railAfter (x : Sample) (n : Nat) : Nat := if atRail x then min Config.railLimit (n + 1) else 0

/-- Completion of learning: the sum is the baseline, in sixteenths (R92). -/
def completeLearning (r : ChannelRecord) : ChannelRecord :=
  { r with
    state := .active
    baseline := r.learnSum
    learnSum := 0
    learnCount := 0
    occupied := false
    consecutive := 0 }

/-- A sample in LEARNING: counted under the tracking condition, else discarded (R91, R92). -/
def learnSample (tracking : Bool) (x : Sample) (r : ChannelRecord) : ChannelRecord :=
  if tracking then
    let r' := { r with learnSum := r.learnSum + x.val, learnCount := r.learnCount + 1 }
    if r'.learnCount = Config.learnSamples then completeLearning r' else r'
  else r

/-- The deviation of a sample from the baseline, in sixteenths (R93). -/
def deviation (x : Sample) (r : ChannelRecord) : Nat := (16 * (x.val : Int) - r.baseline).natAbs

/-- Whether a sample is a candidate (R93). -/
def isCandidate (e : SensingEntry) (x : Sample) (r : ChannelRecord) : Bool :=
  decide (16 * e.threshold < deviation x r)

/-- The debounce of a judged sample (R94). -/
def debounce (e : SensingEntry) (candidate : Bool) (r : ChannelRecord) : ChannelRecord :=
  if candidate = r.occupied then { r with consecutive := 0 }
  else
    let n := min 15 (r.consecutive + 1)
    let limit := if r.occupied then e.nOff else e.nOn
    if limit ≤ n then { r with occupied := candidate, consecutive := 0 } else { r with consecutive := n }

/-- The baseline after a tracked sample (R95). -/
def trackedBaseline (x : Sample) (b : Int) : Int :=
  max 0 (min Config.baselineMax (b + (16 * (x.val : Int) - b).tdiv 64))

/-- A sample in ACTIVE: judged against the baseline as it stood, debounced, then tracked (R93 to R95). -/
def judgeSample (e : SensingEntry) (tracking : Bool) (x : Sample) (r : ChannelRecord) : ChannelRecord :=
  let candidate := isCandidate e x r
  let r' := debounce e candidate r
  if !candidate && !r.occupied && tracking then { r' with baseline := trackedBaseline x r.baseline } else r'

/-- The record after the end of its conversion (R88): the sample is stored with the tracking condition, rail-checked
(R96), and handled by the state. A channel in OFF discards it. DESIGN CHOICE (assumption 25): the tracking field is
stored in FAULT too, as R90 says of each conversion end, though R97 gives such an end no effect but the sample and the
rail count. -/
def takeSample (e : SensingEntry) (tracking : Bool) (x : Sample) (r : ChannelRecord) : ChannelRecord :=
  let rails := railAfter x r.railCount
  let r' := { r with lastSample := some x, tracking := tracking, railCount := rails }
  match r.state with
  | .off => r
  | .settling => if rails = Config.railLimit then enterChannelFault r' else { r' with state := .learning }
  | .learning => if rails = Config.railLimit then enterChannelFault r' else learnSample tracking x r'
  | .active => if rails = Config.railLimit then enterChannelFault r' else judgeSample e tracking x r'
  | .fault => r'

/-! ## A change of a channel handed on -/

/-- The tracking condition of a channel, from the inputs the SSC holds (R90). -/
def trackingHolds (s : State) (c : Channel) : Bool :=
  let door := s.ssc.doorViews.get (channelDoor c)
  if isGap c then s.ssc.berthView == .empty && (door == .closedLocked || door == .isolated)
  else door == .closedLocked

/-- The attention flag of a channel's entry to FAULT (R97, R103). -/
def channelFlag (old new : ChannelRecord) (s : State) : State :=
  if new.state = .fault ∧ old.state ≠ .fault then setFlag .sensingFault s else s

/-- The gap bypass of a door cleared at its GAP channel's entry to ACTIVE (R79). -/
def clearBypass (d : Door) (s : State) : State := changeDoor d (fun r => { r with gapBypass := false }) s

/-- A change of a channel record handed to its door's record (R102): for a DOORWAY channel each change of occupied or
of being ACTIVE, for a GAP channel its entry to ACTIVE. -/
def handChannel (c : Channel) (old new : ChannelRecord) (s : State) : State :=
  let d := channelDoor c
  if isGap c then
    if new.state = .active ∧ old.state ≠ .active then clearBypass d s else s
  else if gapViewOf old = gapViewOf new then s
  else changeDoor d (doorwayNotice s.geo.timers (new.occupied && !old.occupied) (gapViewOf new)) s

/-- A change of a channel record: the record is changed before anything is handed (R102). -/
def changeChannel (c : Channel) (f : ChannelRecord → ChannelRecord) (s : State) : State :=
  let old := channelAt s c
  let new := f old
  handChannel c old new (channelFlag old new (putChannel s c new))

/-- The scanner begins its next conversion: the next channel not in OFF after the one converted last, and none where
every channel is in OFF (R88). -/
def beginConversion (s : State) : State :=
  { s with ssc := { s.ssc with inFlight := nextLive s.ssc.channels s.ssc.lastConverted } }

/-- The scanner, idle with every channel in OFF, takes up the scan once a channel has left OFF; a conversion in flight
goes on (R88). -/
def wakeScanner (s : State) : State := if s.ssc.inFlight.isNone then beginConversion s else s

/-- The end of a channel's conversion (R88): the sample goes to the channel's record, and the scanner goes on to the
next channel. No conversion ends but the one in flight (assumption 4). -/
def takeConversion (c : Channel) (x : Sample) (s : State) : State :=
  if s.ssc.inFlight = some c then
    let s' := changeChannel c (takeSample (s.geo.sensing.get c) (trackingHolds s c) x) s
    beginConversion { s' with ssc := { s'.ssc with lastConverted := some c } }
  else s

/-- Whether a channel's stored setting is enabled and its door fitted (R7, R105). -/
def inService (s : State) (c : Channel) : Bool :=
  (s.geo.sensing.get c).enabled && fitted s (channelDoor c)

/-- A channel brought into line with its enabled setting and its door's fitted field (R3, R7, R100): from OFF to
SETTLING when both are yes, to OFF from any state when either is not. -/
def followSetting (c : Channel) (s : State) : State :=
  let st := (channelAt s c).state
  if inService s c then
    if st = .off then changeChannel c enterSettling s else s
  else if st ≠ .off then changeChannel c enterOff s
  else s

/-- CHANNEL_RELEARN (R98). -/
def ownerRelearn (number : Nat) (s : State) : Answer :=
  match channelOfNumber number with
  | none => refuse .refusedRange s
  | some c =>
    if (channelAt s c).state = .off then refuse .refusedState s
    else done (changeChannel c enterSettling s)

/-- CHANNEL_READ (R101). -/
def ownerChannelRead (number : Nat) (s : State) : Answer :=
  match channelOfNumber number with
  | none => refuse .refusedRange s
  | some c => doneWith (.channel c (s.geo.sensing.get c) (channelAt s c)) s

end Sys2Proof.Machine
end

