-- ==== Sys2Proof/Machine/Station.lean ====
section
/-! DEFINITION. The station operations at their owners: the door records (R77, R78, R84, R131), the release list
(R116, R117, R121 to R123), the attention flags (R172, R173), and the GEO (R11, R12). -/

namespace Sys2Proof.Machine

/-! ## Door records -/

/-- DOOR_CUTOUT (R78). -/
def ownerCutout (number : Nat) (s : State) : Answer :=
  match doorOfNumber number with
  | none => refuse .refusedRange s
  | some d =>
    if fitted s d = false then refuse .refusedState s
    else if s.berth.enableSet.get d then refuse .refusedState s
    else done (changeDoor d (fun r => { r with cutOut := true }) s)

/-- DOOR_CUTIN (R78). -/
def ownerCutin (number : Nat) (s : State) : Answer :=
  match doorOfNumber number with
  | none => refuse .refusedRange s
  | some d => done (changeDoor d (fun r => { r with cutOut := false }) s)

/-- DOOR_REINIT (R77); the group's mark is set (R86). -/
def ownerReinit (number : Nat) (s : State) : Answer :=
  match doorOfNumber number with
  | none => refuse .refusedRange s
  | some d =>
    if fitted s d = false then refuse .refusedState s
    else done (setMark d (changeDoor d reinitDoor s))

/-- GAP_BYPASS (R131). -/
def ownerGapBypass (number : Nat) (s : State) : Answer :=
  match doorOfNumber number with
  | none => refuse .refusedRange s
  | some d =>
    if fitted s d = false then refuse .refusedState s
    else if (channelAt s (gapChannel d)).state = .active then refuse .refusedState s
    else done (changeDoor d (fun r => { r with gapBypass := true }) s)

/-- The platform view of one door as STATUS_READ returns it (R84). -/
def doorStatusOf (r : DoorRecord) : DoorStatus :=
  ⟨r.state, r.cutOut, r.gapBypass, r.reopenCount, r.slowClose, r.blockedCause, r.faultCause, r.missCount,
   r.lastReport⟩

/-- STATUS_READ: the door table, the marks as they stand and the survey; then the named marks are cleared (R84). -/
def ownerStatusRead (mask : Tab 5 Bool) (s : State) : Answer :=
  doneWith (.status (Tab.ofFn fun d => doorStatusOf (doorAt s d)) s.dlc.marks s.dlc.survey)
    { s with dlc := { s.dlc with marks := Tab.ofFn fun g => s.dlc.marks.get g && !mask.get g } }

/-! ## Release list -/

/-- RELEASE_RESTORE (R116). -/
def ownerRestore (number : Nat) (s : State) : Answer :=
  if s.mac.restoreKey = false then refuse .refusedKey s
  else
    match s.rlm.list.find? fun r => r.number == number with
    | none => refuse .refusedRange s
    | some r =>
      if r.state = .active then refuse .refusedState s
      else done (rearm (setList (s.rlm.list.filter fun r => r.number != number) s))

/-- RESTORE_ALL: the CLEARED records go; the overflow flag is cleared if the list is then empty (R117). That it re-arms
also where no record was removed is the model's choice (DESIGN CHOICE, assumption 28; R117, R118). -/
def ownerRestoreAll (s : State) : Answer :=
  if s.mac.restoreKey = false then refuse .refusedKey s
  else
    let kept := s.rlm.list.filter fun r => r.state == .active
    let s' := setList kept s
    done (rearm { s' with rlm := { s'.rlm with overflow := s'.rlm.overflow && !kept.isEmpty } })

/-- RETAINED_CLEAR (R121). That it re-arms also where the list was empty is the model's choice (DESIGN CHOICE,
assumption 28). -/
def ownerRetainedClear (s : State) : Answer :=
  if ¬(s.mac.restoreKey = true ∧ s.mac.maintenanceKey = true) then refuse .refusedKey s
  else if anyActive s.rlm.list then refuse .refusedState s
  else
    let s' := setList [] s
    done (rearm { s' with rlm := { s'.rlm with overflow := false, warmCount := 0 } })

/-- TIME_SET (R122). -/
def ownerTimeSet (time : Nat) (s : State) : Answer :=
  done { s with rlm := { s.rlm with deviceTime := time } }

/-- RECORD_READ (R123). -/
def ownerRecordRead (s : State) : Answer :=
  doneWith (.releases s.rlm.list s.rlm.overflow s.rlm.lastCause s.rlm.warmCount s.rlm.deviceTime) s

/-- The next value of device time (R106). -/
def nextDeviceTime (t : Nat) : Nat := if t = 4294967295 then 0 else t + 1

/-! ## Attention flags -/

/-- ATTENTION_CLEAR: every named flag is cleared, set or not (R172). -/
def ownerAttentionClear (mask : Tab 10 Bool) (s : State) : Answer :=
  done { s with slp := { s.slp with flags := Tab.ofFn fun i => s.slp.flags.get i && !mask.get i } }

/-- ATTENTION_ENABLE: the enables become the mask (R173). -/
def ownerAttentionEnable (mask : Tab 10 Bool) (s : State) : Answer :=
  done { s with slp := { s.slp with enables := mask } }

/-! ## Configuration -/

/-- CONFIG_READ (R12): an entry of the persistent store. -/
def ownerConfigRead (req : Nat × Nat) (s : State) : Answer :=
  let (table, entry) := req
  match table with
  | 1 =>
    match doorOfNumber entry with
    | some d => doneWith (.doorGeometry d (s.store.doors.get d)) s
    | none => refuse .refusedRange s
  | 2 => if entry = 1 then doneWith (.berthConstants s.store.berth) s else refuse .refusedRange s
  | 3 => if entry = 1 then doneWith (.timers s.store.timers) s else refuse .refusedRange s
  | 4 =>
    match channelOfNumber entry with
    | some c => doneWith (.sensing c (s.store.sensing.get c)) s
    | none => refuse .refusedRange s
  | 5 =>
    match slotOfNumber entry with
    | some k => doneWith (.formation k (s.store.formations.get k)) s
    | none => refuse .refusedRange s
  | _ => refuse .refusedRange s

/-- A change of a door's fitted field: its record goes to ABSENT or INIT with every other field as at cold start, its
two channels follow, and its group's mark is set (R3). -/
def changeFitted (d : Door) (isFitted : Bool) (s : State) : State :=
  let s := setMark d (changeDoor d (fun _ => DoorRecord.cold isFitted) s)
  surveyCheck (wakeScanner (followSetting (doorwayChannel d) (followSetting (gapChannel d) s)))

/-- Whether R3 refuses taking a door out: it is in EMERGENCY, or an ACTIVE HANDLE record names it. -/
def unfitBarred (d : Door) (s : State) : Bool :=
  (doorAt s d).state == .emergency || activeOf s.rlm.list (.handle d)

/-- Checks 6 to 8 of a DOOR_GEOMETRY write, and the write (R2, R3, R10). -/
def writeDoorGeometry (r : ConfigRequest) (d : Door) (s : State) : Answer :=
  let old := s.geo.doors.get d
  let new := writtenDoorGeometry r old
  let table := s.geo.doors.set d new
  if old.fitted ∧ new.fitted = false ∧ unfitBarred d s then refuse .refusedState s
  else if doorTableConsistent table = false then
    match failingNeighbour table d with
    | some k => refuseWith .refusedRange (.door k) s
    | none => refuse .refusedRange s
  else
    match spacingFailure table s.geo.formations with
    | some k => refuseWith .refusedRange (.slot k) s
    | none =>
      let s' := storeDoorGeometry d new s
      if old.fitted = new.fitted then done s' else done (changeFitted d new.fitted s')

/-- Check 7 of a BERTH_CONSTANTS write, and the write (R4). -/
def writeBerthConstants (r : ConfigRequest) (s : State) : Answer :=
  let new := writtenBerthConstants r s.geo.berth
  match berthConstantsFailure new with
  | some i => refuseWith .refusedRange (.field i) s
  | none => done (storeBerthConstants new s)

/-- A TIMERS write (R6). -/
def writeTimers (r : ConfigRequest) (s : State) : Answer :=
  done (storeTimers (writtenTimers r s.geo.timers) s)

/-- A SENSING write, delivered to the channel record as it is taken (R7, R100). -/
def writeSensing (r : ConfigRequest) (c : Channel) (s : State) : Answer :=
  let old := s.geo.sensing.get c
  let new := writtenSensing r old
  let s' := storeSensing c new s
  if old.enabled = new.enabled then done s' else done (wakeScanner (followSetting c s'))

/-- Checks 7 and 8 of a FORMATION write, and the write (R9, R10). -/
def writeFormation (r : ConfigRequest) (k : Slot) (s : State) : Answer :=
  let new := writtenFormation r (s.geo.formations.get k)
  match formationFailure s.geo k new with
  | some d => refuseWith .refusedRange d s
  | none =>
    match (if new.valid then spacingFailure s.geo.doors (s.geo.formations.set k new) else none) with
    | some j => refuseWith .refusedRange (.slot j) s
    | none => done (storeFormation k new s)

/-- A CONFIG_WRITE whose carried fields are all in range, by its table. -/
def writeEntry (r : ConfigRequest) (s : State) : Answer :=
  match r.table with
  | 1 =>
    match doorOfNumber r.entry with
    | some d => writeDoorGeometry r d s
    | none => refuse .refusedRange s
  | 2 => writeBerthConstants r s
  | 3 => writeTimers r s
  | 4 =>
    match channelOfNumber r.entry with
    | some c => writeSensing r c s
    | none => refuse .refusedRange s
  | 5 =>
    match slotOfNumber r.entry with
    | some k => writeFormation r k s
    | none => refuse .refusedRange s
  | _ => refuse .refusedRange s

/-- CONFIG_WRITE at the GEO, from check 3 of R11 on. -/
def ownerConfigWrite (r : ConfigRequest) (s : State) : Answer :=
  if s.berth.state ≠ .empty then refuse .refusedState s
  else if entryExists r.table r.entry = false then refuse .refusedRange s
  else
    match firstFailingField s.geo r with
    | some i => refuseWith .refusedRange (fieldDetail r.table i) s
    | none => writeEntry r s

end Sys2Proof.Machine
end

