-- ==== Sys2Proof/Machine/Restart.lean ====
section
/-! DEFINITION. Cold start and warm restart: every block's starting values, then the start-up events of the blocks
(R12, R31, R61, R86, R105, R125, R126, R137, R152, R153, R165, R170, R174). -/

namespace Sys2Proof.Machine

/-- The levels of every sampled input as the part last accepted them: what a start finds when nothing has changed
meanwhile. -/
def presentLevels (s : State) : Levels where
  readerA := ⟨s.readerA.lineState, s.readerA.health, s.readerA.beam⟩
  readerB := ⟨s.readerB.lineState, s.readerB.health, s.readerB.beam⟩
  perLine := s.rlm.perLine
  fireLine := s.rlm.fireLine
  localSwitch := s.mac.localSwitch
  maintenanceKey := s.mac.maintenanceKey
  restoreKey := s.mac.restoreKey
  localOpenPressed := s.mac.localOpenPressed
  localClosePressed := s.mac.localClosePressed
  forceClosePressed := s.mac.forceClosePressed

/-! ## Starting values -/

/-- The retained memory and lines of the RLM after a cold start, before the line triggers (R125). -/
def coldRlm (l : Levels) : Rlm where
  list := [ReleaseRecord.atPowerOn]
  overflow := false
  lastCause := .powerOn
  warmCount := 0
  deviceTime := 0
  secondTimer := Config.second
  perLine := l.perLine
  fireLine := l.fireLine

/-- A record through a warm restart: ACTIVE TRAIN records move to CLEARED, and an ACTIVE PER or FIRE record whose line
is not asserted does too (R126). -/
def warmEnds (l : Levels) : ReleaseSource → Bool
  | .train _ => true
  | .per => !l.perLine
  | .fire => !l.fireLine
  | .handle _ => false
  | .powerOn => false

/-- A warm restart counted, saturating (R126). -/
def countRestart (n : Nat) : Nat := min 255 (n + 1)

/-- The RLM after a warm restart, before the line triggers (R126). -/
def warmRlm (cause : RestartCause) (l : Levels) (r : Rlm) : Rlm :=
  { r with
    list := clearedWhere (warmEnds l) r.list
    lastCause := cause
    warmCount := countRestart r.warmCount
    perLine := l.perLine
    fireLine := l.fireLine }

/-- The MAC after a start with the mode given, its contacts sampled with no edge (R147, R152). -/
def startMac (mode : PlatformMode) (l : Levels) : Mac where
  mode := mode
  localSwitch := l.localSwitch
  maintenanceKey := l.maintenanceKey
  restoreKey := l.restoreKey
  fireLine := l.fireLine
  localOpenPressed := l.localOpenPressed
  localClosePressed := l.localClosePressed
  forceClosePressed := l.forceClosePressed
  berthView := .empty
  test := none
  lastRefusal := none
  refusalCount := 0

/-- The mode after a cold start: LOCAL, or FIRE if the FIRE line is found asserted (R152). -/
def coldMode (l : Levels) : PlatformMode := if l.fireLine then .fire else .localMode

/-- The mode after a warm restart: kept, and corrected by the FIRE line and the MAINTENANCE key (R152). -/
def warmMode (l : Levels) (m : PlatformMode) : PlatformMode :=
  if l.fireLine then .fire
  else
    match m with
    | .fire => .localMode
    | .maintenance => if l.maintenanceKey then .maintenance else .localMode
    | .automatic => .automatic
    | .localMode => .localMode

/-- The DLC after a start: every mark set, the survey RUNNING (R84 to R86). -/
def startDlc (doors : Tab 40 DoorRecord) : Dlc where
  doors := doors
  marks := Tab.fill 5 true
  survey := .running
  releaseInForce := false
  lastPolled := none
  awaitingReply := false

/-- The channel table after a start (R105). -/
def startChannels (g : Geo) : Tab 80 ChannelRecord :=
  Tab.ofFn fun c => ChannelRecord.start ((g.sensing.get c).enabled && (g.doors.get (channelDoor c)).fitted)

/-- The SSC after a start (R105): the scan begins at the lowest channel not in OFF (R88). -/
def startSsc (g : Geo) (doors : Tab 40 DoorRecord) : Ssc where
  channels := startChannels g
  berthView := .empty
  doorViews := Tab.ofFn fun d => (doors.get d).state
  lastConverted := none
  inFlight := nextLive (startChannels g) none

/-- The blocks at their starting values: the geometry and the door records given, the mode and release monitor given;
the SCL and the ports' values follow in `startViews`. -/
def startBlocks (g : Geo) (doors : Tab 40 DoorRecord) (rlm : Rlm) (mode : PlatformMode) (enables : Tab 10 Bool)
    (l : Levels) (s : State) : State :=
  { s with
    geo := g
    readerA := startReader .a l.readerA
    readerB := startReader .b l.readerB
    berth := BerthRecord.atEmpty
    stopSettle := none
    checkOwed := none
    departureQuiet := none
    dlc := { startDlc doors with releaseInForce := perFireActive rlm.list }
    ssc := startSsc g doors
    rlm := rlm
    mac := startMac mode l
    tlp :=
      { s.tlp with
        link := .up
        supervision := some Config.trainSupervision
        session := .none
        sessionVersion := none
        sessionTrainId := none
        statusTimer := none
        heldSummary := none
        reportSeq := 0 }
    ilp :=
      { s.ilp with
        link := .up
        supervision := some Config.interlockingSupervision
        reportTimer := some Config.platformStatePeriod
        reportSeq := 0 }
    slp :=
      { s.slp with
        link := .up
        supervision := some Config.stationSupervision
        statusTimer := some Config.stationStatusPeriod
        flags := Tab.fill 10 false
        enables := enables
        reportSeq := 0 }
    sent := []
    summaryDue := false
    restartDue := false
    pending := withoutFrames s.pending }

/-! ## Start-up events -/

/-- A reader found with its health line low sets its attention flag (R27, R170). -/
def startReaderFlags (s : State) : State :=
  let s := if readerNormal s.readerA then s else setFlag .readerAFault s
  if readerNormal s.readerB then s else setFlag .readerBFault s

/-- A line found asserted with no ACTIVE record of its source is a trigger (R125, R126). -/
def startLine (src : ReleaseSource) (asserted : Bool) (s : State) : State :=
  if asserted && !activeOf s.rlm.list src then lineTrigger src s else s

/-- The SCL as a start leaves it: the causes of the starting values with the survey RUNNING, secure and permit not
asserted, the timer stopped; then the survey's completion, if it completes at once, taken as an event (R137). -/
def startScl (s : State) : State :=
  let i := sclInputOf s
  let running : SclInput := { i with survey := .running }
  let l : Scl := { input := running, causes := causesOf running, confirm := none, secure := false, permit := false }
  { s with scl := if i.survey = .running then l else sclTake i s.geo.timers.secureConfirm l }

/-- The ports' report values taken from their owners (R153, R165, R170). -/
def startPorts (s : State) : State :=
  let s := { s with tlp := { s.tlp with values := trainValuesOf s } }
  let s := { s with ilp := { s.ilp with values := ilValuesOf s } }
  { s with slp := { s.slp with values := stationValuesOf s } }

/-- STATION_STATUS at the end of a start, if a start-up event has set an enabled flag (R170, R173). -/
def startReport (s : State) : State :=
  if (List.finRange 10).any fun i => s.slp.enables.get i && s.slp.flags.get i then sendStationStatus s else s

/-- The start-up events of the blocks, in order: reader faults, the FIRE line, the PER line, the survey, the SCL and the
ports (R31, R125, R126, R85, R137, R170). -/
def startEvents (l : Levels) (s : State) : State :=
  let s := startReaderFlags s
  let s := startLine .fire l.fireLine s
  let s := startLine .per l.perLine s
  startReport (startPorts (startScl (surveyCheck s)))

/-- Cold start (R125): the GEO is reloaded from the store (R12), the enables are all on (R170). -/
def coldStart (l : Levels) (s : State) : State :=
  startEvents l
    (startBlocks s.store (Tab.ofFn fun d => DoorRecord.cold (s.store.doors.get d).fitted) (coldRlm l) (coldMode l)
      (Tab.fill 10 true) l s)

/-- A warm restart that has begun and is cut off by a supply dip has been counted (R174, assumption 7). -/
def countBegunRestart (s : State) : State :=
  if s.restartDue then { s with rlm := { s.rlm with warmCount := countRestart s.rlm.warmCount } } else s

/-- Warm restart with a cause (R174): GEO, release list, cut-outs, gap bypasses, mode and enables kept. -/
def warmStart (cause : RestartCause) (l : Levels) (s : State) : State :=
  startEvents l
    (startBlocks s.geo (Tab.ofFn fun d => warmDoor (fitted s d) (doorAt s d)) (warmRlm cause l s.rlm)
      (warmMode l s.mac.mode) s.slp.enables l s)

end Sys2Proof.Machine
end

