-- ==== Sys2Proof/Machine/Clock.lean ====
section
/-! DEFINITION. The timers: which timer is due, and the passage of one hundredth of a second (00_scope.md 5.5), for a
step taken with no command waiting. -/

namespace Sys2Proof.Machine

/-- One hundredth of a second off a timer; a timer at 0 stays there until its expiry is taken. -/
def tickTimer : Timer → Timer
  | some n => some (n - 1)
  | none => none

/-- The expiry command of a door's state timer (R67). -/
def stateTimerExpiry (d : Door) : StateTimerKind → Instr
  | .unlock => .unlockTimeoutExpiry d
  | .opening => .openTimeoutExpiry d
  | .close => .closeTimeoutExpiry d
  | .lead => .closeWarningLeadExpiry d
  | .doorwayWait => .doorwayWaitLimitExpiry d
  | .reopenHold => .reopenHoldExpiry d

/-- The expiry due at one door record, if any: its state timer, then its warning phase. -/
def doorExpiry (s : State) (d : Door) : Option Instr :=
  let r := doorAt s d
  match r.stateTimer.filter fun t => t.remaining == 0 with
  | some t => some (stateTimerExpiry d t.kind)
  | none =>
    if due r.warningTimer then
      match r.warningPhase with
      | .on => some (.warningOnExpiry d)
      | .off => some (.warningOffExpiry d)
      | .none => none
    else none

/-- The timers outside the door records, each with its expiry command, in the order in which expiries that fall
together are taken (assumption 3). -/
def blockTimers (s : State) : List (Timer × Instr) :=
  [(settleTimer s, .stopSettleExpiry),
   (s.departureQuiet, .departureQuietExpiry),
   (s.scl.confirm, .secureConfirmExpiry),
   (s.tlp.supervision, .trainLinkSupervisionExpiry),
   (s.tlp.statusTimer, .berthStatusTimerExpiry),
   (s.ilp.supervision, .ilLinkSupervisionExpiry),
   (s.ilp.reportTimer, .platformStateTimerExpiry),
   (s.slp.supervision, .stationLinkSupervisionExpiry),
   (s.slp.statusTimer, .stationStatusTimerExpiry),
   (some s.rlm.secondTimer, .deviceTimeTick)]

/-- The event that is due with no command waiting: the warm restart after a RESTART (R174), else the first expiry. -/
def dueEvent (s : State) : Option Instr :=
  if s.restartDue then some (.warmRestart (presentLevels s))
  else
    match allDoors.findSome? (doorExpiry s) with
    | some c => some c
    | none => ((blockTimers s).find? fun p => due p.1).map fun p => p.2

/-- A door record one hundredth of a second later. -/
def tickDoor (r : DoorRecord) : DoorRecord :=
  { r with
    stateTimer := r.stateTimer.map fun t => { t with remaining := t.remaining - 1 }
    warningTimer := tickTimer r.warningTimer }

/-- One hundredth of a second passes: every running timer runs down, no step and check meet any more, and
nothing else changes. -/
def tick (s : State) : State :=
  { fresh s with
    dlc := { s.dlc with doors := Tab.ofFn fun d => tickDoor (doorAt s d) }
    stopSettle := tickTimer s.stopSettle
    checkOwed := none
    departureQuiet := tickTimer s.departureQuiet
    scl := { s.scl with confirm := tickTimer s.scl.confirm }
    tlp := { s.tlp with supervision := tickTimer s.tlp.supervision, statusTimer := tickTimer s.tlp.statusTimer }
    ilp := { s.ilp with supervision := tickTimer s.ilp.supervision, reportTimer := tickTimer s.ilp.reportTimer }
    slp := { s.slp with supervision := tickTimer s.slp.supervision, statusTimer := tickTimer s.slp.statusTimer }
    rlm := { s.rlm with secondTimer := s.rlm.secondTimer - 1 } }

end Sys2Proof.Machine
end

