-- ==== Sys2Proof/Machine/ConsoleCommands.lean ====
section
/-! DEFINITION. The meanings of the console events (chapter 8): buttons, switch, keys, and the PER and FIRE lines. -/

namespace Sys2Proof.Machine

/-- LOCAL_OPEN (R148). -/
def execLocalOpen (s : State) : Host.Outcome State Fault Refusal :=
  .next (event (pressButton .localOpen bsqLocalOpen) s)

/-- LOCAL_CLOSE (R148). -/
def execLocalClose (s : State) : Host.Outcome State Fault Refusal :=
  .next (event (pressButton .localClose bsqLocalClose) s)

/-- FORCE_CLOSE_BUTTON (R72, R148). -/
def execForceCloseButton (s : State) : Host.Outcome State Fault Refusal :=
  .next (event (pressButton .forceClose dlcForceCloseButton) s)

/-- BUTTON_RELEASE (R147). -/
def execButtonRelease (b : Button) (s : State) : Host.Outcome State Fault Refusal :=
  .next (event (releaseButton b) s)

/-- LOCAL_SWITCH_EDGE (R139). -/
def execLocalSwitchEdge (p : SwitchPosition) (s : State) : Host.Outcome State Fault Refusal :=
  .next (event (takeSwitchEdge p) s)

/-- MAINTENANCE_KEY_CHANGE (R141). -/
def execMaintenanceKeyChange (on : Bool) (s : State) : Host.Outcome State Fault Refusal :=
  .next (event (takeMaintenanceKey on) s)

/-- RESTORE_KEY_CHANGE (R141). -/
def execRestoreKeyChange (on : Bool) (s : State) : Host.Outcome State Fault Refusal :=
  .next (event (takeRestoreKey on) s)

/-- PER_LINE_ASSERT (R111). -/
def execPerLineAssert (s : State) : Host.Outcome State Fault Refusal := .next (event takePerAssert s)

/-- PER_LINE_DEASSERT (R114). -/
def execPerLineDeassert (s : State) : Host.Outcome State Fault Refusal := .next (event takePerDeassert s)

/-- FIRE_LINE_ASSERT (R111, R142). -/
def execFireLineAssert (s : State) : Host.Outcome State Fault Refusal := .next (event takeFireAssert s)

/-- FIRE_LINE_DEASSERT (R114, R142). -/
def execFireLineDeassert (s : State) : Host.Outcome State Fault Refusal := .next (event takeFireDeassert s)

end Sys2Proof.Machine
end

