-- ==== Sys2Proof/Machine/InputCommands.lean ====
section
/-! DEFINITION. The meanings of the events at the readers, the door loop and the sensing probes (chapters 2, 4, 5). -/

namespace Sys2Proof.Machine

/-! ## Door loop -/

/-- The door polled next: the next position not in ABSENT in ascending address, round to the lowest (R62). -/
def nextToPoll (s : State) : Option Door :=
  nextRound (fun d => (doorAt s d).state != .absent) s.dlc.lastPolled

/-- Whether a poll's command is sent with the lamp bit: each command except HOLD; a status poll carries no command and
the bit off (R62, R63). -/
def carriesLamp : Option Command → Bool
  | some .hold => false
  | some _ => true
  | none => false

/-- The lamp bit of a poll: on in phase ON, with a command that is sent with it. DESIGN CHOICE (assumption 27): where a
door is in CLOSE_WAIT under HOLD, R63 sends HOLD without the bit and R83 says each poll; the model follows R63. -/
def lampBit (r : DoorRecord) : Bool := carriesLamp r.command && r.warningPhase == .on

/-- The door whose poll is under way, if its reply is awaited (R62). -/
def pollUnderWay (s : State) : Option Door := if s.dlc.awaitingReply then s.dlc.lastPolled else none

/-- The next door polled with its current command and lamp bit (R62). A poll ends with a reply or a miss and with
nothing else, so while one is under way none is sent (assumption 4). -/
def takePollSend (s : State) : State :=
  if (pollUnderWay s).isSome then s
  else
    match nextToPoll s with
    | some d =>
      let r := doorAt s d
      send (.poll d r.command (lampBit r))
        { s with dlc := { s.dlc with lastPolled := some d, awaitingReply := true } }
    | none => s

/-- The poll under way has ended (R62). -/
def endPoll (s : State) : State := { s with dlc := { s.dlc with awaitingReply := false } }

/-- The attention flag of a door adopted into FAULT, also when it was in FAULT before (R76). -/
def adoptionFlag (d : Door) (n : ReportNotice) (s : State) : State :=
  if n = .adoption ∧ (doorAt s d).state = .fault then setFlag .doorFault s else s

/-- What the DLC hands the RLM of an evaluated report (R73, R74, R80, R119). -/
def rlmReport (d : Door) (rep : Report) (n : ReportNotice) (s : State) : State :=
  match n with
  | .nothing => s
  | .adoption => takeAdoption d rep s
  | .handlePulled => trigger (.handle d) s
  | .handleReturned => clearSources (isHandleOf d) s

/-- A valid report at a door record (R64, R65). A position in ABSENT takes none. -/
def takeReport (d : Door) (rep : Report) (s : State) : State :=
  if (doorAt s d).state = .absent then s
  else
    let evaluated := evaluateReport s.geo.timers rep (storeReport rep (doorAt s d))
    let s' := changeDoor d (fun _ => evaluated.1) s
    surveyCheck (rlmReport d rep evaluated.2 (adoptionFlag d evaluated.2 s'))

/-- A door that has entered FAULT from INIT: its ACTIVE HANDLE record moves to CLEARED (R119). -/
def initFaulted (d : Door) (old : DoorState) (s : State) : State :=
  if old = .init ∧ (doorAt s d).state = .fault then clearSources (isHandleOf d) s else s

/-- A miss at a door record (R64). -/
def takePollMiss (d : Door) (s : State) : State :=
  let old := (doorAt s d).state
  if old = .absent then s
  else surveyCheck (initFaulted d old (changeDoor d takeMiss s))

/-- The end of a door's poll, if it is the poll under way (R62, assumption 4). -/
def endOfPoll (d : Door) (f : State → State) (s : State) : State :=
  if pollUnderWay s = some d then f (endPoll s) else s

/-- The expiry of a door's state timer, if it has run out (R67, assumption 8). -/
def expireDoor (kind : StateTimerKind) (d : Door) (f : DoorRecord → DoorRecord) (s : State) : State :=
  if timerDue kind (doorAt s d) then changeDoor d f s else s

/-- Expiry of the unlock timeout (R68). -/
def unlockExpired (r : DoorRecord) : DoorRecord :=
  if r.state = .unlocking then enterFault .unlockTimeout r else r

/-- Expiry of the open timeout, by the state that runs it (R66, R68, R71). -/
def openExpired (r : DoorRecord) : DoorRecord :=
  if r.state = .opening ∨ r.state = .reopening then enterFault .openTimeout r
  else if r.state = .init then enterFault .adoption r
  else r

/-- Expiry of the close timeout (R71). -/
def closeExpired (r : DoorRecord) : DoorRecord :=
  if r.state = .closing then enterFault .closeTimeout r else r

/-- Expiry of the doorway wait limit (R70). -/
def waitExpired (r : DoorRecord) : DoorRecord :=
  if r.state = .closeWait then enterCloseBlocked .doorway r else r

/-- Expiry of the reopen hold (R71). -/
def holdExpired (t : TimerSettings) (r : DoorRecord) : DoorRecord :=
  if r.state = .reopening then enterCloseWait t r else r

/-- The open timeout's expiry at the DLC and, for a door in INIT, at the RLM (R66, R119). -/
def takeOpenExpiry (d : Door) (s : State) : State :=
  if timerDue .opening (doorAt s d) then
    surveyCheck (initFaulted d (doorAt s d).state (changeDoor d openExpired s))
  else s

/-- The end of a warning phase (R83). -/
def takeWarningExpiry (phase : WarningPhase) (d : Door) (s : State) : State :=
  let r := doorAt s d
  if r.warningPhase = phase ∧ due r.warningTimer then changeDoor d (flipWarning s.geo.timers) s else s

/-! ## Meanings: readers -/

/-- LINE_TRANSITION (R17). -/
def execLineTransition (e : End) (lines : LineState) (s : State) : Host.Outcome State Fault Refusal :=
  .next (event (takeLines e lines) s)

/-- BEAM_BREAK (R23). -/
def execBeamBreak (e : End) (s : State) : Host.Outcome State Fault Refusal := .next (event (takeBeamBreak e) s)

/-- BEAM_CLEAR (R24). -/
def execBeamClear (e : End) (s : State) : Host.Outcome State Fault Refusal := .next (event (takeBeamClear e) s)

/-- HEALTH_LINE_DROP (R27). -/
def execHealthLineDrop (e : End) (s : State) : Host.Outcome State Fault Refusal := .next (event (takeHealthDrop e) s)

/-- HEALTH_LINE_RISE (R27). -/
def execHealthLineRise (e : End) (s : State) : Host.Outcome State Fault Refusal := .next (event (takeHealthRise e) s)

/-! ## Meanings: door loop -/

/-- POLL_SEND (R62). -/
def execPollSend (s : State) : Host.Outcome State Fault Refusal := .next (event takePollSend s)

/-- POLL_REPLY (R65). -/
def execPollReply (d : Door) (rep : Report) (s : State) : Host.Outcome State Fault Refusal :=
  .next (event (endOfPoll d (takeReport d rep)) s)

/-- POLL_MISS (R64). -/
def execPollMiss (d : Door) (s : State) : Host.Outcome State Fault Refusal :=
  .next (event (endOfPoll d (takePollMiss d)) s)

/-- UNLOCK_TIMEOUT_EXPIRY (R68). -/
def execUnlockTimeoutExpiry (d : Door) (s : State) : Host.Outcome State Fault Refusal :=
  .next (event (expireDoor .unlock d unlockExpired) s)

/-- OPEN_TIMEOUT_EXPIRY (R66, R68, R71). -/
def execOpenTimeoutExpiry (d : Door) (s : State) : Host.Outcome State Fault Refusal :=
  .next (event (takeOpenExpiry d) s)

/-- CLOSE_TIMEOUT_EXPIRY (R71). -/
def execCloseTimeoutExpiry (d : Door) (s : State) : Host.Outcome State Fault Refusal :=
  .next (event (expireDoor .close d closeExpired) s)

/-- CLOSE_WARNING_LEAD_EXPIRY (R70). -/
def execCloseWarningLeadExpiry (d : Door) (s : State) : Host.Outcome State Fault Refusal :=
  .next
    (event (fun s => expireDoor .lead d
      (fun r => if r.state = .closeWait then leadExpired s.geo.timers (doorwayOf s d) r else r) s) s)

/-- DOORWAY_WAIT_LIMIT_EXPIRY (R70, R72). -/
def execDoorwayWaitLimitExpiry (d : Door) (s : State) : Host.Outcome State Fault Refusal :=
  .next (event (expireDoor .doorwayWait d waitExpired) s)

/-- REOPEN_HOLD_EXPIRY (R71). -/
def execReopenHoldExpiry (d : Door) (s : State) : Host.Outcome State Fault Refusal :=
  .next (event (fun s => expireDoor .reopenHold d (holdExpired s.geo.timers) s) s)

/-- WARNING_ON_EXPIRY (R83). -/
def execWarningOnExpiry (d : Door) (s : State) : Host.Outcome State Fault Refusal :=
  .next (event (takeWarningExpiry .on d) s)

/-- WARNING_OFF_EXPIRY (R83). -/
def execWarningOffExpiry (d : Door) (s : State) : Host.Outcome State Fault Refusal :=
  .next (event (takeWarningExpiry .off d) s)

/-! ## Meanings: probes -/

/-- CONVERSION_END (R88). -/
def execConversionEnd (c : Channel) (x : Sample) (s : State) : Host.Outcome State Fault Refusal :=
  .next (event (takeConversion c x) s)

end Sys2Proof.Machine
end

