-- ==== Sys2Proof/Machine/InterlockingCommands.lean ====
section
/-! DEFINITION. The meanings of the interlocking link requests, and of the frames that no kind or no check lets through
(chapter 10, R176). -/

namespace Sys2Proof.Machine

/-- BERTH_AUTHORISE (R47, R167). -/
def execBerthAuthorise (f : Frame) (s : State) : Host.Outcome State Fault Refusal :=
  .next (interlockingRequest 0x20 false f formTrainId bsqAuthorise s)

/-- BERTH_REVOKE (R47, R167). -/
def execBerthRevoke (f : Frame) (s : State) : Host.Outcome State Fault Refusal :=
  .next (interlockingRequest 0x21 false f formNone (fun _ s => done (setAuthorisation none s)) s)

/-- STATUS_POLL (R167): replied DONE, then PLATFORM_STATE. -/
def execStatusPoll (f : Frame) (s : State) : Host.Outcome State Fault Refusal :=
  .next (interlockingRequest 0x22 true f formNone (fun _ s => done s) s)

/-- UNASSIGNED_KIND_FRAME (R176): the frame restarts supervision and is refused at the gate. -/
def execUnassignedKindFrame (f : Frame) (kind : Byte) (s : State) : Host.Outcome State Fault Refusal :=
  let s0 := fresh s
  .next
    (if s.restartDue then s0
     else finishRequest f kind Due.none s0 (refuse .refusedAuthority (receive f.link s0)))

/-- INVALID_FRAME (R176): discarded without reply; nothing changes. -/
def execInvalidFrame (_ : Link) (_ : List Byte) (s : State) : Host.Outcome State Fault Refusal := .next (fresh s)

end Sys2Proof.Machine
end

