-- ==== Sys2Proof/Machine/ResetCommands.lean ====
section
/-! DEFINITION. The meanings of the resets of the part (00_scope.md 5.9, R125, R174). -/

namespace Sys2Proof.Machine

/-- COLD_START (R125). -/
def execColdStart (l : Levels) (s : State) : Host.Outcome State Fault Refusal := .next (coldStart l s)

/-- SUPPLY_DIP: a warm restart with cause SUPPLY_DIP, begun afresh where one had begun (R174). -/
def execSupplyDip (l : Levels) (s : State) : Host.Outcome State Fault Refusal :=
  .next (warmStart .supplyDip l (countBegunRestart s))

/-- WARM_RESTART: the warm restart that follows a RESTART's reply, cause STATION_RESTART (R126, R174). -/
def execWarmRestart (l : Levels) (s : State) : Host.Outcome State Fault Refusal :=
  .next (warmStart .stationRestart l s)

end Sys2Proof.Machine
end

