-- ==== Sys2Proof/Machine/StationCommands.lean ====
section
/-! DEFINITION. The meanings of the station link requests (chapter 10, R171). -/

namespace Sys2Proof.Machine

/-- MODE_SET (R140). -/
def execModeSet (f : Frame) (s : State) : Host.Outcome State Fault Refusal :=
  .next (stationRequest 0x30 false f formMode ownerModeSet s)

/-- DOOR_CUTOUT (R78). -/
def execDoorCutout (f : Frame) (s : State) : Host.Outcome State Fault Refusal :=
  .next (stationRequest 0x31 false f formByte ownerCutout s)

/-- DOOR_CUTIN (R78). -/
def execDoorCutin (f : Frame) (s : State) : Host.Outcome State Fault Refusal :=
  .next (stationRequest 0x32 false f formByte ownerCutin s)

/-- DOOR_REINIT (R77). -/
def execDoorReinit (f : Frame) (s : State) : Host.Outcome State Fault Refusal :=
  .next (stationRequest 0x33 false f formByte ownerReinit s)

/-- GAP_BYPASS (R131). -/
def execGapBypass (f : Frame) (s : State) : Host.Outcome State Fault Refusal :=
  .next (stationRequest 0x34 false f formByte ownerGapBypass s)

/-- FORCE_CLOSE (R72). -/
def execForceClose (f : Frame) (s : State) : Host.Outcome State Fault Refusal :=
  .next (stationRequest 0x35 false f formByte ownerForceClose s)

/-- PARTIAL_RELEASE_AUTHORISE (R48). -/
def execPartialReleaseAuthorise (f : Frame) (s : State) : Host.Outcome State Fault Refusal :=
  .next (stationRequest 0x36 false f formNone (fun _ => bsqPartialAuthorise) s)

/-- BERTH_CLEAR (R57). -/
def execBerthClear (f : Frame) (s : State) : Host.Outcome State Fault Refusal :=
  .next (stationRequest 0x37 false f formNone (fun _ => bsqBerthClear) s)

/-- RELEASE_RESTORE (R116). -/
def execReleaseRestore (f : Frame) (s : State) : Host.Outcome State Fault Refusal :=
  .next (stationRequest 0x38 false f formRecordNumber ownerRestore s)

/-- RESTORE_ALL (R117). -/
def execRestoreAll (f : Frame) (s : State) : Host.Outcome State Fault Refusal :=
  .next (stationRequest 0x39 false f formNone (fun _ => ownerRestoreAll) s)

/-- CHANNEL_RELEARN (R98). -/
def execChannelRelearn (f : Frame) (s : State) : Host.Outcome State Fault Refusal :=
  .next (stationRequest 0x3A false f formByte ownerRelearn s)

/-- READER_RESET (R28). -/
def execReaderReset (f : Frame) (s : State) : Host.Outcome State Fault Refusal :=
  .next (stationRequest 0x3B false f formReader ownerReaderReset s)

/-- ATTENTION_CLEAR (R172). -/
def execAttentionClear (f : Frame) (s : State) : Host.Outcome State Fault Refusal :=
  .next (stationRequest 0x3C false f formFlagMask ownerAttentionClear s)

/-- ATTENTION_ENABLE (R173). -/
def execAttentionEnable (f : Frame) (s : State) : Host.Outcome State Fault Refusal :=
  .next (stationRequest 0x3D false f formFlagMask ownerAttentionEnable s)

/-- TIME_SET (R122). -/
def execTimeSet (f : Frame) (s : State) : Host.Outcome State Fault Refusal :=
  .next (stationRequest 0x3E false f formTime ownerTimeSet s)

/-- STATUS_READ (R84). -/
def execStatusRead (f : Frame) (s : State) : Host.Outcome State Fault Refusal :=
  .next (stationRequest 0x3F false f formMarkMask ownerStatusRead s)

/-- RECORD_READ (R123). -/
def execRecordRead (f : Frame) (s : State) : Host.Outcome State Fault Refusal :=
  .next (stationRequest 0x40 false f formNone (fun _ => ownerRecordRead) s)

/-- BERTH_READ (R22, R171). -/
def execBerthRead (f : Frame) (s : State) : Host.Outcome State Fault Refusal :=
  .next (stationRequest 0x41 false f formNone (fun _ => ownerBerthRead) s)

/-- CHANNEL_READ (R101). -/
def execChannelRead (f : Frame) (s : State) : Host.Outcome State Fault Refusal :=
  .next (stationRequest 0x42 false f formByte ownerChannelRead s)

/-- CONFIG_READ (R12). -/
def execConfigRead (f : Frame) (s : State) : Host.Outcome State Fault Refusal :=
  .next (stationRequest 0x43 false f formConfigRead ownerConfigRead s)

/-- CONFIG_WRITE (R11). -/
def execConfigWrite (f : Frame) (s : State) : Host.Outcome State Fault Refusal :=
  .next (stationRequest 0x48 true f formConfigWrite ownerConfigWrite s)

/-- DOOR_TEST (R149). -/
def execDoorTest (f : Frame) (s : State) : Host.Outcome State Fault Refusal :=
  .next (stationRequest 0x49 true f formByte ownerDoorTest s)

/-- RETAINED_CLEAR (R121). -/
def execRetainedClear (f : Frame) (s : State) : Host.Outcome State Fault Refusal :=
  .next (stationRequest 0x4A true f formNone (fun _ => ownerRetainedClear) s)

/-- RESTART (R174): replied DONE; the warm restart is then due. -/
def execRestart (f : Frame) (s : State) : Host.Outcome State Fault Refusal :=
  .next (stationRequest 0x4B true f formNone (fun _ s => done { s with restartDue := true }) s)

end Sys2Proof.Machine
end

