-- ==== Sys2Proof/Machine/TimerCommands.lean ====
section
/-! DEFINITION. The meanings of the expiries of the berth, secure and link timers, and of the tick of device time. A
timer that is stopped, or has time left because an event taken before has started it anew, does not expire (R81: "the
timeout does not happen"; R164, R169, R175: "timer restarted"): such a command changes nothing (assumption 8), but
for the settle check that R21 has made after a step taken first (assumption 29). -/

namespace Sys2Proof.Machine

/-- Expiry of the stop settle time, or the settle check still owed after a step taken first, by berth state (R21, R37,
R56). -/
def takeSettleExpiry (s : State) : State :=
  if due (settleTimer s) = false then s
  else
    match s.berth.state with
    | .arriving => settleInArriving s
    | .creep => settleInCreep s
    | .empty => stopSettleTime s
    | .stopped => stopSettleTime s
    | .released => stopSettleTime s
    | .dispatching => stopSettleTime s
    | .departing => stopSettleTime s

/-- Expiry of the departure quiet time: the berth returns to EMPTY from DEPARTING with no session open, or from
ARRIVING while its conditions hold (R58). -/
def takeQuietExpiry (s : State) : State :=
  if due s.departureQuiet = false then s
  else if (s.berth.state = .departing ∧ sessionOpen s = false) ∨ arrivingQuiet s then enterEmpty s
  else { s with departureQuiet := none }

/-- Expiry of the confirm timer: secure becomes asserted and the permit is re-evaluated (R132, R134). -/
def takeConfirmExpiry (s : State) : State :=
  if due s.scl.confirm = false then s
  else
    { s with
      scl := { s.scl with secure := true, confirm := none, permit := permitOf true s.scl.input.berthState } }

/-- The BSQ is told that the session was lost (R60). -/
def bsqLinkLost (s : State) : State :=
  if s.berth.state = .empty then s else { s with berth := { s.berth with linkLost := true } }

/-- Expiry of the train link supervision (R154). -/
def takeTrainLoss (s : State) : State :=
  if due s.tlp.supervision = false then s
  else
    let s' := { s with tlp := { s.tlp with link := .lost, supervision := none } }
    if sessionOpen s then bsqLinkLost (setFlag .trainLinkLost (closeSession s')) else s'

/-- Expiry of the interlocking link supervision: the authorisation is cleared (R47, R166). -/
def takeIlLoss (s : State) : State :=
  if due s.ilp.supervision = false then s
  else
    setAuthorisation none
      (setFlag .ilLinkLost { s with ilp := { s.ilp with link := .lost, supervision := none, reportTimer := none } })

/-- Expiry of the station link supervision (R170). -/
def takeStationLoss (s : State) : State :=
  if due s.slp.supervision = false then s
  else { s with slp := { s.slp with link := .lost, supervision := none, statusTimer := none } }

/-! ## Meanings -/

/-- STOP_SETTLE_EXPIRY (R37, R56). -/
def execStopSettleExpiry (s : State) : Host.Outcome State Fault Refusal := .next (event takeSettleExpiry s)

/-- DEPARTURE_QUIET_EXPIRY (R58). -/
def execDepartureQuietExpiry (s : State) : Host.Outcome State Fault Refusal := .next (event takeQuietExpiry s)

/-- SECURE_CONFIRM_EXPIRY (R132). -/
def execSecureConfirmExpiry (s : State) : Host.Outcome State Fault Refusal := .next (event takeConfirmExpiry s)

/-- TRAIN_LINK_SUPERVISION_EXPIRY (R154). -/
def execTrainLinkSupervisionExpiry (s : State) : Host.Outcome State Fault Refusal := .next (event takeTrainLoss s)

/-- BERTH_STATUS_TIMER_EXPIRY (R162): a report while the session is OPEN. -/
def execBerthStatusTimerExpiry (s : State) : Host.Outcome State Fault Refusal :=
  .next (eventWith ⟨due s.tlp.statusTimer, false, false⟩ (fun s => s) s)

/-- IL_LINK_SUPERVISION_EXPIRY (R166). -/
def execIlLinkSupervisionExpiry (s : State) : Host.Outcome State Fault Refusal := .next (event takeIlLoss s)

/-- PLATFORM_STATE_TIMER_EXPIRY (R168): a report while the link is UP. -/
def execPlatformStateTimerExpiry (s : State) : Host.Outcome State Fault Refusal :=
  .next (eventWith ⟨false, due s.ilp.reportTimer, false⟩ (fun s => s) s)

/-- STATION_LINK_SUPERVISION_EXPIRY (R170). -/
def execStationLinkSupervisionExpiry (s : State) : Host.Outcome State Fault Refusal := .next (event takeStationLoss s)

/-- STATION_STATUS_TIMER_EXPIRY (R173): a report while the link is UP. -/
def execStationStatusTimerExpiry (s : State) : Host.Outcome State Fault Refusal :=
  .next (eventWith ⟨false, false, due s.slp.statusTimer⟩ (fun s => s) s)

/-- DEVICE_TIME_TICK (R106). -/
def execDeviceTimeTick (s : State) : Host.Outcome State Fault Refusal :=
  .next
    (event (fun s =>
      { s with rlm := { s.rlm with deviceTime := nextDeviceTime s.rlm.deviceTime, secondTimer := Config.second } }) s)

end Sys2Proof.Machine
end

