-- ==== Sys2Proof/Machine/TrainCommands.lean ====
section
/-! DEFINITION. The meanings of the train link requests (chapter 9). -/

namespace Sys2Proof.Machine

/-! ## The TLP's own part -/

/-- A taken ANNOUNCE opens or resumes the session with its version and train id, and the held summary, if there is one,
is to be sent again (R156). -/
def openSession (a : Announce) (s : State) : State :=
  { s with
    tlp := { s.tlp with session := .opened, sessionVersion := some a.version, sessionTrainId := some a.trainId }
    summaryDue := s.tlp.heldSummary.isSome }

/-- ANNOUNCE: the BSQ takes or refuses it, and a taken one opens the session (R35, R156). -/
def ownerAnnounce (a : Announce) (s : State) : Answer :=
  let ans := bsqAnnounce a s
  if ans.result = .done then done (openSession a ans.state) else ans

/-- TRAIN_EMERGENCY_END: every ACTIVE TRAIN record moves to CLEARED (R115). -/
def ownerEmergencyEnd (_ : Unit) (s : State) : Answer := done (clearSources isTrain s)

/-- DEPART_NOTICE: the session ends with cause DEPART; link lost is left as it is (R60, R157). -/
def ownerDepart (_ : Unit) (s : State) : Answer := done (closeSession s)

/-! ## Kinds (R146, 11.1) -/

def kindAnnounce : TrainKind := ⟨0x10, false, false, true⟩
def kindStopReport : TrainKind := ⟨0x11, true, false, false⟩
def kindPresence : TrainKind := ⟨0x12, false, false, false⟩
def kindReleaseReq : TrainKind := ⟨0x13, false, true, false⟩
def kindOpenReq : TrainKind := ⟨0x14, false, true, false⟩
def kindCloseReq : TrainKind := ⟨0x15, false, true, false⟩
def kindTrainEmergency : TrainKind := ⟨0x16, false, false, false⟩
def kindTrainEmergencyEnd : TrainKind := ⟨0x17, false, false, false⟩
def kindDepartNotice : TrainKind := ⟨0x18, false, false, false⟩

/-! ## Meanings -/

/-- ANNOUNCE (R35, R155, R156). -/
def execAnnounce (f : Frame) (s : State) : Host.Outcome State Fault Refusal :=
  .next (trainRequest kindAnnounce f formAnnounce ownerAnnounce s)

/-- STOP_REPORT (R36, R158). -/
def execStopReport (f : Frame) (s : State) : Host.Outcome State Fault Refusal :=
  .next (trainRequest kindStopReport f formStopReport bsqStopReport s)

/-- PRESENCE (R36, R158). -/
def execPresence (f : Frame) (s : State) : Host.Outcome State Fault Refusal :=
  .next (trainRequest kindPresence f formPresence bsqPresence s)

/-- RELEASE_REQ (R49, R50). -/
def execReleaseReq (f : Frame) (s : State) : Host.Outcome State Fault Refusal :=
  .next (trainRequest kindReleaseReq f formEmpty (fun _ => bsqRelease) s)

/-- OPEN_REQ (R52). -/
def execOpenReq (f : Frame) (s : State) : Host.Outcome State Fault Refusal :=
  .next (trainRequest kindOpenReq f formOpenReq bsqOpen s)

/-- CLOSE_REQ (R53). -/
def execCloseReq (f : Frame) (s : State) : Host.Outcome State Fault Refusal :=
  .next (trainRequest kindCloseReq f formEmpty (fun _ => bsqClose) s)

/-- TRAIN_EMERGENCY (R113, R159). -/
def execTrainEmergency (f : Frame) (s : State) : Host.Outcome State Fault Refusal :=
  .next (trainRequest kindTrainEmergency f formTrainEmergency rlmTrainEmergency s)

/-- TRAIN_EMERGENCY_END (R115, R159). -/
def execTrainEmergencyEnd (f : Frame) (s : State) : Host.Outcome State Fault Refusal :=
  .next (trainRequest kindTrainEmergencyEnd f formEmpty ownerEmergencyEnd s)

/-- DEPART_NOTICE (R157). -/
def execDepartNotice (f : Frame) (s : State) : Host.Outcome State Fault Refusal :=
  .next (trainRequest kindDepartNotice f formEmpty ownerDepart s)

end Sys2Proof.Machine
end

