-- ==== Sys2Proof/Machine/Dispatch.lean ====
section
/-! DEFINITION. The meaning of every command: one arm per constructor of `Instr`, each one call. -/

namespace Sys2Proof.Machine

/-- The effect of a command on everything but the queue. -/
def exec (i : Instr) (s : State) : Host.Outcome State Fault Refusal :=
  match i with
  | .announce f => Sys2Proof.Machine.execAnnounce f s
  | .stopReport f => Sys2Proof.Machine.execStopReport f s
  | .presence f => Sys2Proof.Machine.execPresence f s
  | .releaseReq f => Sys2Proof.Machine.execReleaseReq f s
  | .openReq f => Sys2Proof.Machine.execOpenReq f s
  | .closeReq f => Sys2Proof.Machine.execCloseReq f s
  | .trainEmergency f => Sys2Proof.Machine.execTrainEmergency f s
  | .trainEmergencyEnd f => Sys2Proof.Machine.execTrainEmergencyEnd f s
  | .departNotice f => Sys2Proof.Machine.execDepartNotice f s
  | .berthAuthorise f => Sys2Proof.Machine.execBerthAuthorise f s
  | .berthRevoke f => Sys2Proof.Machine.execBerthRevoke f s
  | .statusPoll f => Sys2Proof.Machine.execStatusPoll f s
  | .modeSet f => Sys2Proof.Machine.execModeSet f s
  | .doorCutout f => Sys2Proof.Machine.execDoorCutout f s
  | .doorCutin f => Sys2Proof.Machine.execDoorCutin f s
  | .doorReinit f => Sys2Proof.Machine.execDoorReinit f s
  | .gapBypass f => Sys2Proof.Machine.execGapBypass f s
  | .forceClose f => Sys2Proof.Machine.execForceClose f s
  | .partialReleaseAuthorise f => Sys2Proof.Machine.execPartialReleaseAuthorise f s
  | .berthClear f => Sys2Proof.Machine.execBerthClear f s
  | .releaseRestore f => Sys2Proof.Machine.execReleaseRestore f s
  | .restoreAll f => Sys2Proof.Machine.execRestoreAll f s
  | .channelRelearn f => Sys2Proof.Machine.execChannelRelearn f s
  | .readerReset f => Sys2Proof.Machine.execReaderReset f s
  | .attentionClear f => Sys2Proof.Machine.execAttentionClear f s
  | .attentionEnable f => Sys2Proof.Machine.execAttentionEnable f s
  | .timeSet f => Sys2Proof.Machine.execTimeSet f s
  | .statusRead f => Sys2Proof.Machine.execStatusRead f s
  | .recordRead f => Sys2Proof.Machine.execRecordRead f s
  | .berthRead f => Sys2Proof.Machine.execBerthRead f s
  | .channelRead f => Sys2Proof.Machine.execChannelRead f s
  | .configRead f => Sys2Proof.Machine.execConfigRead f s
  | .configWrite f => Sys2Proof.Machine.execConfigWrite f s
  | .doorTest f => Sys2Proof.Machine.execDoorTest f s
  | .retainedClear f => Sys2Proof.Machine.execRetainedClear f s
  | .restart f => Sys2Proof.Machine.execRestart f s
  | .unassignedKindFrame f kind => Sys2Proof.Machine.execUnassignedKindFrame f kind s
  | .invalidFrame link bytes => Sys2Proof.Machine.execInvalidFrame link bytes s
  | .localOpen => Sys2Proof.Machine.execLocalOpen s
  | .localClose => Sys2Proof.Machine.execLocalClose s
  | .forceCloseButton => Sys2Proof.Machine.execForceCloseButton s
  | .buttonRelease button => Sys2Proof.Machine.execButtonRelease button s
  | .localSwitchEdge position => Sys2Proof.Machine.execLocalSwitchEdge position s
  | .maintenanceKeyChange on => Sys2Proof.Machine.execMaintenanceKeyChange on s
  | .restoreKeyChange on => Sys2Proof.Machine.execRestoreKeyChange on s
  | .perLineAssert => Sys2Proof.Machine.execPerLineAssert s
  | .perLineDeassert => Sys2Proof.Machine.execPerLineDeassert s
  | .fireLineAssert => Sys2Proof.Machine.execFireLineAssert s
  | .fireLineDeassert => Sys2Proof.Machine.execFireLineDeassert s
  | .lineTransition reader lines => Sys2Proof.Machine.execLineTransition reader lines s
  | .beamBreak reader => Sys2Proof.Machine.execBeamBreak reader s
  | .beamClear reader => Sys2Proof.Machine.execBeamClear reader s
  | .healthLineDrop reader => Sys2Proof.Machine.execHealthLineDrop reader s
  | .healthLineRise reader => Sys2Proof.Machine.execHealthLineRise reader s
  | .pollSend => Sys2Proof.Machine.execPollSend s
  | .pollReply door report => Sys2Proof.Machine.execPollReply door report s
  | .pollMiss door => Sys2Proof.Machine.execPollMiss door s
  | .unlockTimeoutExpiry door => Sys2Proof.Machine.execUnlockTimeoutExpiry door s
  | .openTimeoutExpiry door => Sys2Proof.Machine.execOpenTimeoutExpiry door s
  | .closeTimeoutExpiry door => Sys2Proof.Machine.execCloseTimeoutExpiry door s
  | .closeWarningLeadExpiry door => Sys2Proof.Machine.execCloseWarningLeadExpiry door s
  | .doorwayWaitLimitExpiry door => Sys2Proof.Machine.execDoorwayWaitLimitExpiry door s
  | .reopenHoldExpiry door => Sys2Proof.Machine.execReopenHoldExpiry door s
  | .warningOnExpiry door => Sys2Proof.Machine.execWarningOnExpiry door s
  | .warningOffExpiry door => Sys2Proof.Machine.execWarningOffExpiry door s
  | .conversionEnd channel sample => Sys2Proof.Machine.execConversionEnd channel sample s
  | .stopSettleExpiry => Sys2Proof.Machine.execStopSettleExpiry s
  | .departureQuietExpiry => Sys2Proof.Machine.execDepartureQuietExpiry s
  | .secureConfirmExpiry => Sys2Proof.Machine.execSecureConfirmExpiry s
  | .trainLinkSupervisionExpiry => Sys2Proof.Machine.execTrainLinkSupervisionExpiry s
  | .berthStatusTimerExpiry => Sys2Proof.Machine.execBerthStatusTimerExpiry s
  | .ilLinkSupervisionExpiry => Sys2Proof.Machine.execIlLinkSupervisionExpiry s
  | .platformStateTimerExpiry => Sys2Proof.Machine.execPlatformStateTimerExpiry s
  | .stationLinkSupervisionExpiry => Sys2Proof.Machine.execStationLinkSupervisionExpiry s
  | .stationStatusTimerExpiry => Sys2Proof.Machine.execStationStatusTimerExpiry s
  | .deviceTimeTick => Sys2Proof.Machine.execDeviceTimeTick s
  | .coldStart levels => Sys2Proof.Machine.execColdStart levels s
  | .supplyDip levels => Sys2Proof.Machine.execSupplyDip levels s
  | .warmRestart levels => Sys2Proof.Machine.execWarmRestart levels s

end Sys2Proof.Machine
end

