-- ==== Sys2Proof/Machine/Step.lean ====
section
/-! DEFINITION. One step: the command at the front of the queue, or, with none waiting, the event that is due or one
hundredth of a second (assumptions 2 and 3). -/

namespace Sys2Proof.Machine

/-- What the part does with no command waiting: the event that is due is taken, else a hundredth of a second
passes. -/
def idle (s : State) : Host.Outcome State Fault Refusal :=
  match dueEvent s with
  | some c => exec c s
  | none => .next (tick s)

/-- One step of the part. -/
def step (s : State) : Host.Outcome State Fault Refusal :=
  match s.pending with
  | c :: rest => exec c { s with pending := rest }
  | [] => idle s

/-- The state with the command that a word spells at the front of its queue; the state itself where the word spells
none, which is every word (the table gives no row any bits). -/
def State.withFetchWord (s : State) (nbits w : Nat) : State :=
  match decodeTableWord nbits w with
  | some c => { s with pending := c :: s.pending }
  | none => s

end Sys2Proof.Machine
end

