-- ==== Sys2Proof/Machine/Wire.lean ====
section
/-! DEFINITION. The bytes of what the part sends (11.1, R177): the payload of each message, and the frame around it.
An item whose encoding R177 leaves open is a free value of Config (assumption 20). -/

namespace Sys2Proof.Machine

/-! ## Field encodings (R177) -/

/-- One byte. -/
def byte1 (n : Nat) : List Byte := [BitVec.ofNat 8 n]

/-- Two bytes, big-endian. -/
def byte2 (n : Nat) : List Byte := [BitVec.ofNat 8 (n / 256), BitVec.ofNat 8 n]

/-- Four bytes, big-endian. -/
def byte4 (n : Nat) : List Byte := byte2 (n / 65536) ++ byte2 (n % 65536)

/-- A two's complement number in two bytes. -/
def signed2 (i : Int) : List Byte := byte2 (BitVec.ofInt 16 i).toNat

/-- A two's complement number in four bytes. -/
def signed4 (i : Int) : List Byte := byte4 (BitVec.ofInt 32 i).toNat

/-- A yes or no field. -/
def flagByte (b : Bool) : List Byte := byte1 (if b then 1 else 0)

/-- An optional item whose codes exclude 0, sent as 0 when absent. -/
def orZero {α : Type} (code : α → Nat) (o : Option α) : Nat :=
  match o with
  | some a => code a
  | none => 0

/-- An optional signed field in four bytes: a presence byte, then the value, 0 when absent. -/
def optional4 (o : Option Int) : List Byte := flagByte o.isSome ++ signed4 (o.getD 0)

/-- The number whose binary digits are the flags, the first of weight 1. -/
def flagWeights (l : List Bool) : Nat := l.foldr (fun b n => (if b then 1 else 0) + 2 * n) 0

/-- A set as flags, eight to a byte, the first at weight 1 of the first byte. -/
def flagBytes : (bytes : Nat) → List Bool → List Byte
  | 0, _ => []
  | n + 1, l => BitVec.ofNat 8 (flagWeights (l.take 8)) :: flagBytes n (l.drop 8)

/-- A set of platform doors: five bytes. -/
def doorSetBytes (t : DoorSet) : List Byte := flagBytes 5 t.cells

/-- A cause set: one byte, in the order of chapter 7's table. -/
def causeBytes (c : CauseSet) : List Byte :=
  flagBytes 1 [c.doors, c.release, c.gap, c.mode, c.survey, c.creep]

/-! ## Enumeration codes: 1 for the first value of the defining table (R177) -/

def endValue : End → Nat
  | .a => 1
  | .b => 2

def versionValue : Version → Nat
  | .v1 => 1
  | .v2 => 2

def berthValue : BerthState → Nat
  | .empty => 1
  | .arriving => 2
  | .stopped => 3
  | .released => 4
  | .dispatching => 5
  | .departing => 6
  | .creep => 7

def sourceValue : PositionSource → Nat
  | .reader => 1
  | .trainReport => 2
  | .none => 3

def outcomeValue : AlignOutcome → Nat
  | .aligned => 1
  | .misaligned => 2
  | .gross => 3
  | .unknown => 4
  | .unverified => 5

def motionValue : TrainMotion → Nat
  | .standing => 1
  | .moving => 2

def stepValue : LastStep → Nat
  | .towards .a => 1
  | .towards .b => 2
  | .none => 3

def readerFaultValue : ReaderFaultState → Nat
  | .normal => 1
  | .fault => 2

def readerCauseValue : ReaderFaultCause → Nat
  | .health => 1
  | .illegal => 2
  | .saturated => 3

def beamValue : Beam → Nat
  | .broken => 1
  | .clear => 2

def doorValue : DoorState → Nat
  | .absent => 1
  | .init => 2
  | .closedLocked => 3
  | .unlocking => 4
  | .opening => 5
  | .opened => 6
  | .closeWait => 7
  | .closing => 8
  | .reopening => 9
  | .closeBlocked => 10
  | .emergency => 11
  | .isolated => 12
  | .fault => 13

def blockedValue : BlockedCause → Nat
  | .obstruction => 1
  | .doorway => 2

def doorCauseValue : DoorFaultCause → Nat
  | .unlockTimeout => 1
  | .openTimeout => 2
  | .closeTimeout => 3
  | .adoption => 4
  | .motor => 5
  | .isolation => 6
  | .comms => 7

def leafValue : Leaf → Nat
  | .closed => 1
  | .opened => 2
  | .moving => 3
  | .intermediate => 4

def handleValue : Handle → Nat
  | .normal => 1
  | .pulled => 2

def isolationValue : IsolationSwitch → Nat
  | .normal => 1
  | .isolated => 2

def channelValue : ChannelState → Nat
  | .off => 1
  | .settling => 2
  | .learning => 3
  | .active => 4
  | .fault => 5

def sourceOfRelease : ReleaseSource → Nat
  | .handle _ => 1
  | .per => 2
  | .fire => 3
  | .train _ => 4
  | .powerOn => 5

def releaseValue : ReleaseState → Nat
  | .active => 1
  | .cleared => 2

def restartValue : RestartCause → Nat
  | .powerOn => 1
  | .stationRestart => 2
  | .supplyDip => 3

def modeValue : PlatformMode → Nat
  | .automatic => 1
  | .localMode => 2
  | .maintenance => 3
  | .fire => 4

def switchValue : SwitchPosition → Nat
  | .atLocal => 1
  | .atRemote => 2

def buttonValue : Button → Nat
  | .localOpen => 1
  | .localClose => 2
  | .forceClose => 3

def testValue : TestState → Nat
  | .running => 1
  | .passed => 2
  | .aborted => 3

def linkValue : LinkState → Nat
  | .up => 1
  | .lost => 2

def sessionValue : SessionState → Nat
  | .none => 1
  | .opened => 2

def surveyValue : Survey → Nat
  | .running => 1
  | .complete => 2

/-- A key's position: on, then off (R138). -/
def keyValue (on : Bool) : Nat := if on then 1 else 2

/-- Result codes (R178). -/
def resultValue : ResultCode → Nat
  | .done => 0
  | .refusedAuthority => 1
  | .refusedMode => 2
  | .refusedState => 3
  | .refusedRange => 4
  | .refusedKey => 5
  | .refusedId => 6
  | .refusedAlignment => 7
  | .refusedUnsupported => 8

/-- Mark of a train door (11.2): by version. -/
def markValue : SentMark → Nat
  | .v1 served => if served then 1 else 2
  | .v2 .served => 1
  | .v2 .unservedCutout => 2
  | .v2 .unservedFault => 3
  | .v2 .unpaired => 4

/-- The door number of an optional door, 0 when absent. -/
def doorOrZero (o : Option Door) : Nat := orZero doorNumber o

/-! ## Records of the reads -/

/-- A last report; R177 states no encoding for its absence. -/
def lastReportBytes (o : Option Report) : List Byte :=
  match o with
  | some r =>
    byte1 (leafValue r.leaf) ++ flagByte r.locked ++ flagByte r.obstruction ++ byte1 (handleValue r.handle) ++
      byte1 (isolationValue r.isolation) ++ flagByte r.motorFault ++ flagByte r.unitRestarted
  | none => Config.unstatedEncoding 0

/-- One door of STATUS_READ (R84). -/
def doorStatusBytes (d : DoorStatus) : List Byte :=
  byte1 (doorValue d.state) ++ flagByte d.cutOut ++ flagByte d.gapBypass ++ byte1 d.reopenCount ++
    flagByte d.slowClose ++ byte1 (orZero blockedValue d.blockedCause) ++ byte1 (orZero doorCauseValue d.faultCause) ++
    byte1 d.missCount ++ lastReportBytes d.lastReport

/-- One release record (R107). The door is absent but for HANDLE. R177 states no encoding for an absent car, whose
range includes 0. -/
def releaseBytes (r : ReleaseRecord) : List Byte :=
  let door : Nat :=
    match r.source with
    | .handle d => doorNumber d
    | _ => 0
  let car : List Byte :=
    match r.source with
    | .train c => byte1 c
    | _ => Config.unstatedEncoding 1
  byte1 r.number ++ byte1 (sourceOfRelease r.source) ++ byte1 door ++ car ++ byte2 (r.trainId.getD 0) ++
    byte1 (releaseValue r.state) ++ byte4 r.firstTime ++ byte4 r.lastTime ++ byte1 r.occurrences

/-- One pairing list entry (R32). -/
def pairBytes (e : PairEntry) : List Byte :=
  byte1 e.trainDoor ++ byte1 (doorOrZero e.nearest) ++ optional4 e.error ++ flagByte e.paired

/-- The berth record (R32). -/
def berthBytes (b : BerthRecord) : List Byte :=
  byte1 (berthValue b.state) ++ byte2 (b.trainId.getD 0) ++ byte1 (orZero versionValue b.protocolVersion) ++
    byte1 (b.carCount.getD 0) ++ byte1 (orZero slotNumber b.formationSlot) ++ byte1 (orZero endValue b.heading) ++
    byte1 (sourceValue b.positionSource) ++ optional4 b.measuredFrontX ++ optional4 b.trainReportedFrontX ++
    byte1 (orZero motionValue b.trainMotion) ++ byte1 (orZero outcomeValue b.outcome) ++ byte2 (b.tEff.getD 0) ++
    byte1 b.pairing.length ++ b.pairing.flatMap pairBytes ++ optional4 b.worstError ++ optional4 b.adviceError ++
    byte2 (b.authorisation.getD 0) ++ flagByte b.partialAuthorised ++ doorSetBytes b.enableSet ++
    doorSetBytes b.gapWatch ++ flagByte b.closeRequested ++
    (flagByte b.stopCount.isSome ++ signed2 (b.stopCount.getD 0)) ++ flagByte b.linkLost ++ flagByte b.quiet ++
    flagByte b.edgeClear

/-- A reader record (R16). DESIGN CHOICE (assumption 21): the level of the health line stands at its end, after the
beam, coded high 1 and low 2. -/
def readerBytes (r : Reader) : List Byte :=
  signed2 r.count ++ signed2 r.capture ++ flagByte r.captureValid ++ byte1 (endValue r.sense) ++
    byte1 (stepValue r.lastStep) ++ byte1 r.lineState.val ++ flagByte r.edgeSeen ++ flagByte r.directionChange ++
    flagByte r.saturated ++ byte1 r.illegalCount ++ byte1 (readerFaultValue r.faultState) ++
    byte1 (orZero readerCauseValue r.faultCause) ++ byte1 (beamValue r.beam) ++ byte1 (if r.health then 1 else 2)

/-- A sensing settings entry (R7). -/
def sensingBytes (e : SensingEntry) : List Byte :=
  flagByte e.enabled ++ byte2 e.threshold ++ byte1 e.nOn ++ byte1 e.nOff

/-- A channel record (R87). R177 states no encoding for an absent last sample, whose range includes 0. -/
def channelBytes (r : ChannelRecord) : List Byte :=
  let sample : List Byte :=
    match r.lastSample with
    | some x => byte2 x.val
    | none => Config.unstatedEncoding 2
  byte1 (channelValue r.state) ++ byte2 r.baseline.toNat ++ byte2 r.learnSum ++ byte1 r.learnCount ++
    byte1 r.consecutive ++ flagByte r.occupied ++ byte1 r.railCount ++ sample ++ flagByte r.tracking

/-- The berth constants (R4). -/
def berthConstantsBytes (b : BerthConstants) : List Byte :=
  byte4 b.beamAX ++ byte4 b.beamBX ++ byte4 b.readerAX ++ byte4 b.readerBX ++ signed4 b.readerTrimA ++
    signed4 b.readerTrimB ++ byte4 b.stopMarkAX ++ byte4 b.stopMarkBX ++ byte2 b.crossCheckLimit ++
    byte1 b.creepThreshold

/-- The timer settings (R6), at the widths of their ranges (assumption 11). -/
def timerBytes (t : TimerSettings) : List Byte :=
  byte2 t.unlockTimeout ++ byte2 t.openTimeout ++ byte2 t.closeTimeout ++ byte2 t.closeWarningLead ++
    byte1 t.warningOn ++ byte1 t.warningOff ++ byte2 t.doorwayWaitLimit ++ byte2 t.reopenHold ++ byte2 t.stopSettle ++
    byte1 t.secureConfirm

/-- A formation record (R8). -/
def formationBytes (f : Formation) : List Byte :=
  flagByte f.valid ++ byte2 f.fleetCode ++ byte1 f.carCount ++ byte1 f.stepLength ++ byte2 f.tolerance ++
    flagByte f.partialPermitted ++ byte1 f.trainDoors.length ++
    f.trainDoors.flatMap fun d => byte4 d.offset ++ byte1 d.carIndex

/-- The record of a taken read (R177). -/
def recordBytes : ReadRecord → List Byte
  | .status doors marks survey =>
    doors.cells.flatMap doorStatusBytes ++ flagBytes 1 marks.cells ++ byte1 (surveyValue survey)
  | .releases list overflow cause warmCount deviceTime =>
    byte1 list.length ++ list.flatMap releaseBytes ++ flagByte overflow ++ byte1 (restartValue cause) ++
      byte1 warmCount ++ byte4 deviceTime
  | .berth record readerA readerB => berthBytes record ++ readerBytes readerA ++ readerBytes readerB
  | .channel c setting record => byte1 (channelNumber c) ++ sensingBytes setting ++ channelBytes record
  | .doorGeometry _ e => flagByte e.fitted ++ byte4 e.centreX ++ byte2 e.clearWidth
  | .berthConstants e => berthConstantsBytes e
  | .timers e => timerBytes e
  | .sensing _ e => sensingBytes e
  | .formation _ f => formationBytes f

/-! ## Messages -/

/-- Detail kind and value of a REPLY (11.2). -/
def detailBytes : Detail → List Byte
  | .none => byte1 0 ++ byte2 0
  | .slot k => byte1 1 ++ byte2 (slotNumber k)
  | .door d => byte1 2 ++ byte2 (doorNumber d)
  | .field i => byte1 3 ++ byte2 i
  | .health => byte1 4 ++ byte2 0
  | .doorway => byte1 5 ++ byte2 0

/-- A REPLY (11.2). -/
def replyBytes (r : Reply) : List Byte :=
  r.kind :: byte1 (resultValue r.result) ++ detailBytes r.detail ++
    match r.record with
    | some rec => recordBytes rec
    | none => []

/-- BERTH_STATUS (11.2). -/
def berthStatusBytes (trainId : Option Nat) (v : TrainValues) : List Byte :=
  byte2 (trainId.getD 0) ++ byte1 (berthValue v.berthState) ++ byte1 (orZero endValue v.heading) ++
    byte1 (orZero outcomeValue v.outcome) ++ byte1 (sourceValue v.positionSource) ++ byte2 (v.tEff.getD 0) ++
    optional4 v.worstError ++ optional4 v.adviceError ++ flagByte v.secure ++ flagByte v.permit

/-- DOOR_SUMMARY (11.2). -/
def summaryBytes (trainId : Option Nat) (l : List SentSummaryEntry) : List Byte :=
  byte2 (trainId.getD 0) ++ byte1 l.length ++
    l.flatMap fun e => byte1 e.trainDoor ++ byte1 (markValue e.mark) ++ byte1 (doorOrZero e.paired)

/-- PLATFORM_STATE (11.2). -/
def platformStateBytes (v : IlValues) : List Byte :=
  flagByte v.secure ++ causeBytes v.causes ++ flagByte v.permit ++ byte1 (berthValue v.berthState) ++
    byte2 (v.trainId.getD 0) ++ flagByte v.emergencyActive ++ flagByte v.creepAlarm

/-- An abort cause: MODE, BERTH, OPENED in the order of R138; how a door state is told from them is not stated. -/
def abortBytes (o : Option AbortCause) : List Byte :=
  match o with
  | none => byte1 0
  | some .mode => byte1 1
  | some .berth => byte1 2
  | some .opened => byte1 3
  | some (.doorState st) => Config.unstatedEncoding (100 + doorValue st)

/-- The test record (R138). Its door, state and abort cause all exclude 0, so each is sent as 0 when no record is held
(R177). -/
def testBytes (o : Option TestRecord) : List Byte :=
  match o with
  | some t => byte1 (doorNumber t.door) ++ byte1 (testValue t.state) ++ abortBytes t.abortCause
  | none => byte1 0 ++ byte1 0 ++ byte1 0

/-- The last console refusal (R138); the encoding of its absence is not stated. -/
def consoleRefusalBytes (o : Option ConsoleRefusal) : List Byte :=
  match o with
  | some r => byte1 (buttonValue r.button) ++ byte1 (resultValue r.code) ++ byte4 r.time
  | none => Config.unstatedEncoding 4

/-- STATION_STATUS (R173). -/
def stationStatusBytes (flags enables : Tab 10 Bool) (v : StationValues) : List Byte :=
  flagBytes 2 flags.cells ++ flagBytes 2 enables.cells ++ flagByte v.secure ++ causeBytes v.causes ++
    flagByte v.permit ++ byte1 (berthValue v.berthState) ++ byte2 (v.trainId.getD 0) ++
    byte1 (orZero outcomeValue v.outcome) ++ byte1 (modeValue v.mode) ++ byte1 (switchValue v.localSwitch) ++
    byte1 (keyValue v.maintenanceKey) ++ byte1 (keyValue v.restoreKey) ++ testBytes v.test ++
    consoleRefusalBytes v.lastRefusal ++ byte1 v.refusalCount ++ byte1 (linkValue v.trainLink) ++
    byte1 (sessionValue v.session) ++ byte1 (orZero versionValue v.sessionVersion) ++
    byte2 (v.sessionTrainId.getD 0) ++ byte1 (linkValue v.ilLink) ++
    flagBytes 1 v.marks.cells ++ byte1 (surveyValue v.survey)

/-- The payload of a message. -/
def payloadOf : Message → List Byte
  | .reply r => replyBytes r
  | .berthStatus id v => berthStatusBytes id v
  | .doorSummary id l => summaryBytes id l
  | .platformState v => platformStateBytes v
  | .stationStatus flags enables v => stationStatusBytes flags enables v

/-- The kind code of a message (11.1). -/
def kindOf : Message → Byte
  | .reply _ => replyKind
  | .berthStatus _ _ => berthStatusKind
  | .doorSummary _ _ => doorSummaryKind
  | .platformState _ => platformStateKind
  | .stationStatus _ _ _ => stationStatusKind

/-- The bytes of an output on its link. A payload of more than 240 bytes has no frame (11.1): how the part carries a
longer record is not stated (assumption 22). Door loop frames are outside the manual (chapter 11). -/
def wireOf : Output → Option (List Byte)
  | .frame _ version seq m =>
    let p := payloadOf m
    if p.length ≤ 240 then some (frameBytes version (kindOf m) seq p) else none
  | .poll _ _ _ => none

end Sys2Proof.Machine
end

