-- ==== Sys2Proof/Safety.lean ====
section
/-! DEFINITION. The terms of the claims: what a command keeps, what it replies, and the laws of the manual (L1 to L12)
as predicates of a state. -/

namespace Sys2Proof.Machine

/-! ## What a command keeps -/

/-- The kinds of state that a frame statement names. The ports' report values, report timers and report sequences are
no part: what they hold and when they are sent is said of every command at once (R161 to R163, R165, R168, R173). -/
inductive StatePart where
  | config
  | readers
  | berth
  | doors
  | marks
  | survey
  | polling
  | channels
  | views
  | releases
  | secure
  | modes
  | test
  | session
  | summary
  | flags
  | enables
  | links
  | queue
deriving DecidableEq, Repr

/-- The stop settle time is as before, with the settle check that it may owe (R21, R37). -/
abbrev settleKept (s t : State) : Prop := t.stopSettle = s.stopSettle ∧ t.checkOwed = s.checkOwed

/-- The stop settle time starts afresh, no settle check being owed (R37, R56). -/
abbrev settleStarted (s t : State) : Prop :=
  t.stopSettle = some s.geo.timers.stopSettle ∧ t.checkOwed = none

/-- The stop settle time is stopped, no settle check being owed. -/
abbrev settleStopped (t : State) : Prop := t.stopSettle = none ∧ t.checkOwed = none

/-- One kind of state is after the command as it was before it. -/
def keepsPart (p : StatePart) (s t : State) : Prop :=
  match p with
  /- the GEO and the persistent store -/
  | .config => t.geo = s.geo ∧ t.store = s.store
  | .readers => t.readerA = s.readerA ∧ t.readerB = s.readerB
  /- the berth record with its two timers -/
  | .berth => t.berth = s.berth ∧ settleKept s t ∧ t.departureQuiet = s.departureQuiet
  | .doors => t.dlc.doors = s.dlc.doors
  | .marks => t.dlc.marks = s.dlc.marks
  | .survey => t.dlc.survey = s.dlc.survey
  | .polling => t.dlc.lastPolled = s.dlc.lastPolled ∧ t.dlc.awaitingReply = s.dlc.awaitingReply
  | .channels =>
    t.ssc.channels = s.ssc.channels ∧ t.ssc.lastConverted = s.ssc.lastConverted ∧ t.ssc.inFlight = s.ssc.inFlight
  /- the berth state and door states that the MAC and the SSC hold -/
  | .views =>
    t.mac.berthView = s.mac.berthView ∧ t.ssc.berthView = s.ssc.berthView ∧ t.ssc.doorViews = s.ssc.doorViews
  /- the retained memory, with what the DLC is told of it -/
  | .releases => t.rlm = s.rlm ∧ t.dlc.releaseInForce = s.dlc.releaseInForce
  | .secure => t.scl = s.scl
  /- the MAC record but for its berth view and test record -/
  | .modes => { t.mac with berthView := s.mac.berthView, test := s.mac.test } = s.mac
  | .test => t.mac.test = s.mac.test
  | .session =>
    t.tlp.session = s.tlp.session ∧ t.tlp.sessionVersion = s.tlp.sessionVersion ∧
    t.tlp.sessionTrainId = s.tlp.sessionTrainId
  | .summary => t.tlp.heldSummary = s.tlp.heldSummary
  | .flags => t.slp.flags = s.slp.flags
  | .enables => t.slp.enables = s.slp.enables
  /- the link states and supervision timers of the three ports -/
  | .links =>
    (t.tlp.link = s.tlp.link ∧ t.tlp.supervision = s.tlp.supervision) ∧
    (t.ilp.link = s.ilp.link ∧ t.ilp.supervision = s.ilp.supervision) ∧
    (t.slp.link = s.slp.link ∧ t.slp.supervision = s.slp.supervision)
  | .queue => t.pending = s.pending ∧ t.restartDue = s.restartDue

/-- Every kind of state that the list does not name is as before. -/
def keepsBut (changed : List StatePart) (s t : State) : Prop := ∀ p : StatePart, p ∉ changed → keepsPart p s t

/-! ## Requests and replies -/

/-- The REPLY to the frame is sent: on its link, with its version and sequence (R176). -/
def replied (f : Frame) (kind : Byte) (result : ResultCode) (detail : Detail) (record : Option ReadRecord)
    (t : State) : Prop :=
  Output.frame f.link f.version f.seq (.reply ⟨kind, result, detail, record⟩) ∈ t.sent

/-- The port of a link is UP with its supervision started afresh, and the other ports' link states and supervision
timers are as before (R154, R166, R170). -/
def served (link : Link) (s t : State) : Prop :=
  (if link = .train then t.tlp.link = .up ∧ t.tlp.supervision = some Config.trainSupervision
   else t.tlp.link = s.tlp.link ∧ t.tlp.supervision = s.tlp.supervision) ∧
  (if link = .interlocking then t.ilp.link = .up ∧ t.ilp.supervision = some Config.interlockingSupervision
   else t.ilp.link = s.ilp.link ∧ t.ilp.supervision = s.ilp.supervision) ∧
  (if link = .station then t.slp.link = .up ∧ t.slp.supervision = some Config.stationSupervision
   else t.slp.link = s.slp.link ∧ t.slp.supervision = s.slp.supervision)

/-- A request has been answered: its REPLY is sent, and its link served. -/
def answered (f : Frame) (kind : Byte) (result : ResultCode) (detail : Detail) (record : Option ReadRecord)
    (s t : State) : Prop :=
  replied f kind result detail record t ∧ served f.link s t

/-- A request has been taken: DONE without detail or record. -/
def taken (f : Frame) (kind : Byte) (s t : State) : Prop := answered f kind .done .none none s t

/-- A request has been refused with a code and a detail, and every piece of state but the port that answered is as it
stood (R178). -/
def refusedAs (f : Frame) (kind : Byte) (result : ResultCode) (detail : Detail) (s t : State) : Prop :=
  answered f kind result detail none s t ∧ keepsBut [.links] s t

/-- A frame that came on a link and is looked at: no warm restart is due. -/
abbrev arrivedOn (link : Link) (f : Frame) (s : State) : Prop := f.link = link ∧ s.restartDue = false

/-- A train frame within an open session of its own version (R155). -/
abbrev inSession (f : Frame) (s : State) : Prop :=
  arrivedOn .train f s ∧ s.tlp.session = .opened ∧ s.tlp.sessionVersion = some f.version

/-- The train requests that need an open session: every kind but ANNOUNCE (R155). -/
def needsSession : Instr → Bool
  | .stopReport _ | .presence _ | .releaseReq _ | .openReq _ | .closeReq _ | .trainEmergency _
  | .trainEmergencyEnd _ | .departNotice _ => true
  | _ => false

/-- The train requests that pass the gate in AUTOMATIC only (R146). -/
def automaticOnly : Instr → Bool
  | .releaseReq _ | .openReq _ | .closeReq _ => true
  | _ => false

/-- The station requests that pass the gate in MAINTENANCE only (R146). -/
def maintenanceOnly : Instr → Bool
  | .configWrite _ | .doorTest _ | .retainedClear _ | .restart _ => true
  | _ => false

/-- Whether the payload of a request fits the layout of its kind (11.2, R177). -/
def formFits : Instr → Bool
  | .announce f => (formAnnounce f.version f.payload).isSome
  | .stopReport f => (formStopReport f.version f.payload).isSome
  | .presence f => (formPresence f.version f.payload).isSome
  | .openReq f => (formOpenReq f.version f.payload).isSome
  | .trainEmergency f => (formTrainEmergency f.version f.payload).isSome
  | .berthAuthorise f => (formTrainId f.payload).isSome
  | .modeSet f => (formMode f.payload).isSome
  | .doorCutout f | .doorCutin f | .doorReinit f | .gapBypass f | .forceClose f | .channelRelearn f
  | .channelRead f | .doorTest f => (formByte f.payload).isSome
  | .releaseRestore f => (formRecordNumber f.payload).isSome
  | .readerReset f => (formReader f.payload).isSome
  | .attentionClear f | .attentionEnable f => (formFlagMask f.payload).isSome
  | .timeSet f => (formTime f.payload).isSome
  | .statusRead f => (formMarkMask f.payload).isSome
  | .configRead f => (formConfigRead f.payload).isSome
  | .configWrite f => (formConfigWrite f.payload).isSome
  | .releaseReq f | .closeReq f | .trainEmergencyEnd f | .departNotice f | .berthRevoke f | .statusPoll f
  | .partialReleaseAuthorise f | .berthClear f | .restoreAll f | .recordRead f | .berthRead f | .retainedClear f
  | .restart f => f.payload == []
  | _ => true

/-- The commands by which the part starts (R125, R174). -/
def isStart : Instr → Bool
  | .coldStart _ | .supplyDip _ | .warmRestart _ => true
  | _ => false

/-- The MAC record with one button's level stored, and every other field as it was (R138, R147). -/
def buttonStored (b : Button) (pressed : Bool) (m : Mac) : Mac :=
  { m with
    localOpenPressed := if b = .localOpen then pressed else m.localOpenPressed
    localClosePressed := if b = .localClose then pressed else m.localClosePressed
    forceClosePressed := if b = .forceClose then pressed else m.forceClosePressed }

/-! ## The laws of the manual -/

/-- A door position is fitted exactly when its record is not ABSENT (00_scope.md 5.3, R3, R86). -/
def fittedInv (s : State) : Prop := ∀ d : Door, fitted s d = true ↔ (doorAt s d).state ≠ .absent

/-- The SCL's inputs are what its neighbours hold, its causes are those of the inputs, secure and the running timer stand
only with no cause, and the permit follows secure and the berth (R127 to R134). -/
def secureInv (s : State) : Prop :=
  s.scl.input = sclInputOf s ∧ s.scl.causes = causesOf s.scl.input ∧
  (s.scl.secure = true → causesEmpty s.scl.causes = true) ∧
  (s.scl.confirm.isSome = true → causesEmpty s.scl.causes = true ∧ s.scl.secure = false) ∧
  s.scl.permit = (s.scl.secure && s.scl.input.berthState == .dispatching)

/-- Law L1, in the terms of the blocks that own the facts. -/
def platformSafe (s : State) : Prop :=
  (∀ d : Door, fitted s d = true → (doorAt s d).state = .closedLocked ∨ (doorAt s d).state = .isolated) ∧
  (s.rlm.list = [] ∧ s.rlm.overflow = false) ∧ s.mac.mode ≠ .fire ∧ s.dlc.survey = .complete ∧
  s.berth.state ≠ .creep ∧
  ∀ d : Door, s.berth.gapWatch.get d = true → (doorAt s d).gapBypass = false →
    (channelAt s (gapChannel d)).state = .active ∧ (channelAt s (gapChannel d)).occupied = false

/-- The causes in the terms of the blocks that own the facts (R128 to R130). -/
def causesStand (s : State) (c : CauseSet) : Prop :=
  (c.doors = true ↔
    ∃ d : Door, fitted s d = true ∧ (doorAt s d).state ≠ .closedLocked ∧ (doorAt s d).state ≠ .isolated) ∧
  (c.release = true ↔ s.rlm.list ≠ [] ∨ s.rlm.overflow = true) ∧
  (c.gap = true ↔
    ∃ d : Door, s.berth.gapWatch.get d = true ∧ (doorAt s d).gapBypass = false ∧
      ¬((channelAt s (gapChannel d)).state = .active ∧ (channelAt s (gapChannel d)).occupied = false)) ∧
  (c.mode = true ↔ s.mac.mode = .fire) ∧ (c.survey = true ↔ s.dlc.survey = .running) ∧
  (c.creep = true ↔ s.berth.state = .creep)

/-- Law L3. -/
def enableInv (s : State) : Prop :=
  ∀ d : Door, s.berth.enableSet.get d = true →
    s.berth.state = .released ∧ fitted s d = true ∧ (doorAt s d).cutOut = false ∧
    ∃ e ∈ s.berth.pairing, e.paired = true ∧ e.nearest = some d

/-- Law L5 with R107: at most 16 records, no two of one identity, and numbers that are 1 to 16 and all different. -/
def releaseInv (s : State) : Prop :=
  s.rlm.list.length ≤ 16 ∧ s.rlm.list.Pairwise (fun r q => r.source ≠ q.source ∧ r.number ≠ q.number) ∧
  ∀ r ∈ s.rlm.list, 1 ≤ r.number ∧ r.number ≤ 16

/-- The stated ranges of a reader record (R16, law L8). -/
def readerRanges (r : Reader) : Prop :=
  (-32768 ≤ r.count ∧ r.count ≤ 32767) ∧ (-32768 ≤ r.capture ∧ r.capture ≤ 32767) ∧ r.illegalCount ≤ 255 ∧
  (r.faultCause.isSome = true ↔ r.faultState = .fault)

/-- The stated ranges of a channel record (R87, law L6), with what keeps a learned baseline within its range. -/
def channelRanges (c : ChannelRecord) : Prop :=
  (0 ≤ c.baseline ∧ c.baseline ≤ 16368) ∧ c.learnCount ≤ 15 ∧ c.learnSum ≤ 1023 * c.learnCount ∧
  c.consecutive ≤ 15 ∧ c.railCount ≤ 8 ∧ (c.occupied = true → c.state = .active)

/-- The stated ranges of a door record (R67, law L7), and which causes stand in which states. -/
def doorRanges (r : DoorRecord) : Prop :=
  r.reopenCount ≤ 3 ∧ r.missCount ≤ 3 ∧ (r.blockedCause.isSome = true ↔ r.state = .closeBlocked) ∧
  (r.faultCause.isSome = true ↔ r.state = .fault)

/-- Laws L6, L7 and L8 with the other stated ranges. -/
def rangeInv (s : State) : Prop :=
  readerRanges s.readerA ∧ readerRanges s.readerB ∧ (∀ c : Channel, channelRanges (channelAt s c)) ∧
  (∀ d : Door, doorRanges (doorAt s d)) ∧ s.rlm.warmCount ≤ 255 ∧ s.mac.refusalCount ≤ 255

/-- Whether a choice of the next position goes round as R62 and R88 state: it is the lowest live position above `last`, or
the lowest of all where none lies above or nothing came before; with no live position there is no choice. -/
def goesRound {n : Nat} (live : Fin n → Prop) (last choice : Option (Fin n)) : Prop :=
  match choice, last with
  | none, _ => ∀ e, ¬live e
  | some c, none => live c ∧ ∀ e, live e → c ≤ e
  | some c, some p =>
    live c ∧
    ((p < c ∧ ∀ e, live e → p < e → c ≤ e) ∨ ((∀ e, live e → e ≤ p) ∧ ∀ e, live e → c ≤ e))

/-- The scan after channels have come into or gone out of use (R88): the conversion in flight goes on; an idle scanner
takes up the next channel not in OFF, if there is one. -/
def scanFollows (s t : State) : Prop :=
  t.ssc.lastConverted = s.ssc.lastConverted ∧
  if s.ssc.inFlight.isSome = true then t.ssc.inFlight = s.ssc.inFlight
  else goesRound (fun c : Channel => (channelAt t c).state ≠ .off) s.ssc.lastConverted t.ssc.inFlight

/-- The scanner is idle only with every channel in OFF (R88), and an awaited reply is that of a poll sent (R62). -/
def scanInv (s : State) : Prop :=
  (s.ssc.inFlight = none → ∀ c : Channel, (channelAt s c).state = .off) ∧
  (s.dlc.awaitingReply = true → s.dlc.lastPolled.isSome = true)

/-- Law L10. -/
def closingInv (s : State) : Prop :=
  ∀ d : Door, (doorAt s d).state = .closing →
    ¬((channelAt s (doorwayChannel d)).state = .active ∧ (channelAt s (doorwayChannel d)).occupied = true)

/-- Whether a door's last report shows its handle PULLED. -/
def lastPulled (r : DoorRecord) : Bool :=
  match r.lastReport with
  | some rep => rep.handle == .pulled
  | none => false

/-- Law L11, with the fitted positions it speaks of. -/
def handleInv (s : State) : Prop :=
  fittedInv s ∧
  (∀ d : Door, (doorAt s d).state = .emergency ↔ lastPulled (doorAt s d) = true) ∧
  (∀ d : Door, (doorAt s d).state = .emergency → s.rlm.overflow = false → activeOf s.rlm.list (.handle d) = true) ∧
  ∀ d : Door, activeOf s.rlm.list (.handle d) = true →
    (doorAt s d).state = .emergency ∨ (doorAt s d).state = .init

/-- Law L9. -/
def alignedInv (s : State) : Prop :=
  s.berth.outcome = some .aligned →
    ∃ (worst advice : Int) (tEff : Nat), s.berth.worstError = some worst ∧ s.berth.adviceError = some advice ∧
      s.berth.tEff = some tEff ∧ advice.natAbs ≤ worst.natAbs ∧ worst.natAbs ≤ tEff

/-- Every copy that one block holds of another's values is the owner's value (R69, R90, R123, R138, R161, R165, R173). -/
def copiesInv (s : State) : Prop :=
  s.mac.berthView = s.berth.state ∧ s.ssc.berthView = s.berth.state ∧ s.ssc.doorViews = doorStatesOf s ∧
  s.dlc.releaseInForce = perFireActive s.rlm.list ∧ s.mac.fireLine = s.rlm.fireLine ∧
  s.tlp.values = trainValuesOf s ∧ s.ilp.values = ilValuesOf s ∧ s.slp.values = stationValuesOf s

/-- The mode is FIRE exactly while the MAC holds the FIRE line asserted (R142). -/
def fireModeInv (s : State) : Prop := s.mac.mode = .fire ↔ s.mac.fireLine = true

/-- The store holds what the GEO holds, and every valid formation can be paired one to one (R2, R10, R12). -/
def configInv (s : State) : Prop :=
  s.store = s.geo ∧ doorTableConsistent s.geo.doors = true ∧ spacingFailure s.geo.doors s.geo.formations = none

/-- Law L4: in the pairing list no platform door is paired twice and every paired error lies within the effective
tolerance, the formation held being one that passed the spacing validation (R10, R42). -/
def pairingInv (s : State) : Prop :=
  configInv s ∧
  (∀ k : Slot, s.berth.formationSlot = some k →
    (s.geo.formations.get k).valid = true ∧ s.berth.state ≠ .empty) ∧
  s.berth.pairing.Pairwise (fun p q => ¬(p.paired = true ∧ q.paired = true ∧ p.nearest = q.nearest)) ∧
  ∀ p ∈ s.berth.pairing, p.paired = true →
    ∃ (d : Door) (e : Int) (tol : Nat), p.nearest = some d ∧ p.error = some e ∧ s.berth.tEff = some tol ∧
      e.natAbs ≤ tol

/-- The grounds on which a door may be handed an open command (law L2), in the state that the command leaves. -/
def openGround (t : State) (d : Door) : Prop :=
  t.berth.enableSet.get d = true ∨
  perFireActive t.rlm.list = true ∨
  (∃ car, activeOf t.rlm.list (.train car) = true ∧ d ∈ emergencyDoorsNamed car t) ∨
  (∃ r, t.mac.test = some r ∧ r.door = d ∧ r.state = .running ∧ t.mac.berthView = .empty ∧
    t.mac.mode = .maintenance)

/-- What a trigger's source leaves standing (R111, R113, R119): the line asserted, the door EMERGENCY, a standing
train. -/
def triggerStands (t : State) : ReleaseSource → Prop
  | .per => t.rlm.perLine = true
  | .fire => t.rlm.fireLine = true
  | .handle d => (doorAt t d).state = .emergency
  | .train _ => t.berth.state = .stopped ∨ t.berth.state = .released ∨ t.berth.state = .dispatching
  | .powerOn => False

/-- Law L5, third clause: the overflow flag has been set by a trigger that found 16 records held, none of its identity
(R109). -/
def overflowSetByTrigger (t : State) : Prop :=
  t.rlm.list.length = 16 ∧ t.slp.flags.get (AttentionFlag.index .overflow) = true ∧
  t.slp.flags.get (AttentionFlag.index .releaseNew) = true ∧
  ∃ src, holdsSource t.rlm.list src = false ∧ triggerStands t src

/-- A test runs only at an EMPTY berth in MAINTENANCE: it starts only there, and ends where one of them ends (R149,
R150). -/
def testInv (s : State) : Prop :=
  ∀ r, s.mac.test = some r → r.state = .running → s.berth.state = .empty ∧ s.mac.mode = .maintenance

/-- A running part's survey is COMPLETE, or a fitted door is still in INIT (R85). -/
def surveyInv (s : State) : Prop :=
  s.dlc.survey = .complete ∨ ∃ d : Door, fitted s d = true ∧ (doorAt s d).state = .init

/-! ## Expiries that are due (00_scope.md 5.5, assumption 3) -/

/-- The expiry command of a door's state timer (R67). -/
def expiryOf (d : Door) (kind : StateTimerKind) : Instr :=
  match kind with
  | .unlock => .unlockTimeoutExpiry d
  | .opening => .openTimeoutExpiry d
  | .close => .closeTimeoutExpiry d
  | .lead => .closeWarningLeadExpiry d
  | .doorwayWait => .doorwayWaitLimitExpiry d
  | .reopenHold => .reopenHoldExpiry d

/-- The expiry that is due at a door: that of its state timer with no time left or, where that is none, that of its
warning phase with no time left (R67, R83). -/
def doorDue (s : State) (d : Door) (c : Instr) : Prop :=
  (∃ kind, (doorAt s d).stateTimer = some ⟨kind, 0⟩ ∧ c = expiryOf d kind) ∨
  ((∀ kind, (doorAt s d).stateTimer ≠ some ⟨kind, 0⟩) ∧ (doorAt s d).warningTimer = some 0 ∧
    (((doorAt s d).warningPhase = .on ∧ c = .warningOnExpiry d) ∨
      ((doorAt s d).warningPhase = .off ∧ c = .warningOffExpiry d)))

/-- The timers outside the door records with their expiries, in the order of assumption 3. -/
def blockExpiries (s : State) : List (Timer × Instr) :=
  [(settleTimer s, .stopSettleExpiry), (s.departureQuiet, .departureQuietExpiry),
   (s.scl.confirm, .secureConfirmExpiry), (s.tlp.supervision, .trainLinkSupervisionExpiry),
   (s.tlp.statusTimer, .berthStatusTimerExpiry), (s.ilp.supervision, .ilLinkSupervisionExpiry),
   (s.ilp.reportTimer, .platformStateTimerExpiry), (s.slp.supervision, .stationLinkSupervisionExpiry),
   (s.slp.statusTimer, .stationStatusTimerExpiry), (some s.rlm.secondTimer, .deviceTimeTick)]

/-- The first of these expiries whose timer has no time left. -/
def firstBlockDue (s : State) (c : Instr) : Prop :=
  ∃ before after, blockExpiries s = before ++ (some 0, c) :: after ∧ ∀ p ∈ before, p.1 ≠ some 0

/-! ## Alignment (R39 to R43) -/

/-- A whole number of tenths in whole millimetres, to the nearest with halves away from zero (R40). -/
def roundsTenths (n travel : Int) : Prop :=
  travel.natAbs = (n.natAbs + 5) / 10 ∧ (0 ≤ n → 0 ≤ travel) ∧ (n ≤ 0 → travel ≤ 0)

/-- Whether the measuring reader gives the position: NORMAL with capture valid (R39). -/
abbrev readerPlaces (r : Reader) : Prop := r.faultState = .normal ∧ r.captureValid = true

/-- The front in force and the effective tolerance: the measured front with the formation's tolerance, or the reported
front with half of it (R39, R40). -/
def frontInForce (g : Geo) (h : End) (r : Reader) (f : Formation) (b : BerthRecord) (x : Int) (tol : Nat) : Prop :=
  if readerPlaces r then
    tol = f.tolerance ∧
    ∃ travel, roundsTenths ((r.count - r.capture) * f.stepLength) travel ∧
      x =
        (match h with
        | .b => (g.berth.beamBX : Int) + (travel + g.berth.readerTrimB)
        | .a => (g.berth.beamAX : Int) - (travel + g.berth.readerTrimA))
  else tol = f.tolerance / 2 ∧ b.trainReportedFrontX = some x

/-- The stop window of a heading, both ends included (R5). -/
def withinWindow (g : Geo) (h : End) (x : Int) : Prop :=
  match h with
  | .b => (g.berth.beamBX : Int) - 1000 ≤ x ∧ x ≤ (g.berth.beamBX : Int) + 2500
  | .a => (g.berth.beamAX : Int) - 2500 ≤ x ∧ x ≤ (g.berth.beamAX : Int) + 1000

/-- The pairing list entry of the train door at an offset, with the front in force at `x` (R42): the nearest fitted door,
the lower of two at equal distance, its error, and whether that lies within the tolerance. -/
def entryPairs (g : Geo) (h : End) (x : Int) (tol : Nat) (offset : Nat) (e : PairEntry) : Prop :=
  let at_ : Int := match h with | .b => x - offset | .a => x + offset
  let off (d : Door) : Int := at_ - (g.doors.get d).centreX
  match e.nearest with
  | none => (∀ d : Door, (g.doors.get d).fitted = false) ∧ e.error = none ∧ e.paired = false
  | some d =>
    (g.doors.get d).fitted = true ∧ e.error = some (off d) ∧ (e.paired = true ↔ (off d).natAbs ≤ tol) ∧
    ∀ k : Door, (g.doors.get k).fitted = true →
      (off d).natAbs < (off k).natAbs ∨ ((off d).natAbs = (off k).natAbs ∧ d ≤ k)

/-- The results that a pairing list gives (R43): the outcome, the worst error (of two equal in magnitude that of the lower
train door) and the advice error. -/
def pairingResults (b : BerthRecord) : Prop :=
  b.outcome =
    some (if ∀ e ∈ b.pairing, e.paired = true then .aligned
      else if ∃ e ∈ b.pairing, e.paired = true then .misaligned else .gross) ∧
  (match b.worstError with
  | none => ∀ e ∈ b.pairing, e.paired = false
  | some w =>
    ∃ (i : Nat) (e : PairEntry), b.pairing[i]? = some e ∧ e.paired = true ∧ e.error = some w ∧
      ∀ (j : Nat) (e' : PairEntry) (w' : Int), b.pairing[j]? = some e' → e'.paired = true → e'.error = some w' →
        w'.natAbs < w.natAbs ∨ (w'.natAbs = w.natAbs ∧ i ≤ j)) ∧
  b.adviceError =
    (if ∀ e ∈ b.pairing, PairEntry.error e = none then none
    else some ((b.pairing.filterMap PairEntry.error).sum.tdiv b.pairing.length))

/-- The measured front and the one the train reports differ by more than the cross-check limit (R41). -/
def frontsApart (g : Geo) (r : Reader) (b : BerthRecord) (x : Int) : Prop :=
  readerPlaces r ∧ ∃ y, b.trainReportedFrontX = some y ∧ g.berth.crossCheckLimit < (x - y).natAbs

/-- An alignment computation that ends without a pairing (R39, R41). -/
def unpairedOutcome (o : AlignOutcome) (b : BerthRecord) : Prop :=
  b.outcome = some o ∧ b.pairing = [] ∧ b.worstError = none ∧ b.adviceError = none

/-! ## What a train says of itself (R35, R36, R38) -/

/-- The berth record after a taken ANNOUNCE has entered the train's fields (R35): where the heading changes, a stop count
that is held becomes that of the newly measuring reader, absent in FAULT. -/
def announceEntered (a : Announce) (s : State) : BerthRecord :=
  { s.berth with
    trainId := some a.trainId
    protocolVersion := some a.version
    carCount := some a.carCount
    formationSlot := lookupFormation s.geo a
    heading := some a.heading
    stopCount :=
      if s.berth.stopCount.isSome = true ∧ s.berth.heading ≠ some a.heading then
        if (readerAt s a.heading).faultState = .normal then some (readerAt s a.heading).count else none
      else s.berth.stopCount
    linkLost := s.berth.linkLost && s.berth.trainId.isNone }

/-- The session stands open for the train of an ANNOUNCE. -/
def sessionOpenedBy (a : Announce) (t : State) : Prop :=
  t.tlp.session = .opened ∧ t.tlp.sessionVersion = some a.version ∧ t.tlp.sessionTrainId = some a.trainId

/-- A train's report that leaves the record `b` in another state than STOPPED: in ARRIVING the stop settle time starts
afresh, or the berth is stopped, where the measuring reader is in FAULT and a train of the version given stands. -/
def reportTaken (v : Version) (b : BerthRecord) (s t : State) : Prop :=
  (s.berth.state = .arriving →
    (∀ h, s.berth.heading = some h → (readerAt s h).faultState = .fault → b.protocolVersion = some v →
      b.trainMotion = some .standing →
      t.berth = align s.geo h (readerAt s h) { b with state := .stopped, stopCount := none } ∧
      settleStopped t ∧ t.mac.berthView = .stopped ∧ keepsBut [.links, .berth, .views, .test, .secure] s t) ∧
    ((∀ h, s.berth.heading = some h → (readerAt s h).faultState = .normal) ∨ b.protocolVersion ≠ some v ∨
      b.trainMotion ≠ some .standing →
      t.berth = b ∧ settleStarted s t ∧ keepsBut [.links, .berth] s t)) ∧
  (s.berth.state ≠ .arriving → s.berth.state ≠ .stopped →
    t.berth = b ∧ settleKept s t ∧ keepsBut [.links, .berth] s t)

/-- Check 2 of R49: the stop is ALIGNED, or MISALIGNED, partially authorised and of a formation that permits it. -/
def stopPermits (s : State) : Prop :=
  s.berth.outcome = some .aligned ∨
  (s.berth.outcome = some .misaligned ∧ s.berth.partialAuthorised = true ∧
    ∃ fm, berthFormation s = some fm ∧ fm.partialPermitted = true)

/-! ## Readers at the beam (R23, R24) -/

/-- The readers after a beam transition of the reader at `e`: that one as `r`, the other as it was, but that a heading
entered with it is handed to both as their sense (R18, R34). -/
def readersAfterBeam (e : End) (r : Reader) (headed : Prop) (s t : State) : Prop :=
  (headed → readerAt t e = { r with sense := e } ∧
    ∀ e' : End, e' ≠ e → readerAt t e' = { readerAt s e' with sense := e }) ∧
  (¬headed → readerAt t e = r ∧ ∀ e' : End, e' ≠ e → readerAt t e' = readerAt s e')

/-- A reader after its beam breaks (R23): NORMAL with last step forward or NONE it takes its count as a valid capture. -/
def beamBroken (r : Reader) : Reader :=
  if r.faultState = .normal ∧ (r.lastStep = .none ∨ r.lastStep = .towards r.sense) then
    { r with beam := .broken, capture := r.count, captureValid := true }
  else { r with beam := .broken }

/-- A reader after its beam clears (R24): after a backward last step, NORMAL, its capture is no longer valid. -/
def beamCleared (r : Reader) : Reader :=
  if r.faultState = .normal ∧ r.lastStep ≠ .none ∧ r.lastStep ≠ .towards r.sense then
    { r with beam := .clear, captureValid := false }
  else { r with beam := .clear }

/-! ## Movement (R45) -/

/-- The levels after one step in a physical direction (R17). -/
def linesTowards (dir : End) (lines : LineState) : LineState :=
  match dir with
  | .b => lines + 1
  | .a => lines - 1

/-- Whether the train's own reports count as movement: no stop count is held or the measuring reader is in FAULT. -/
def trainUnmeasured (s : State) : Prop :=
  s.berth.stopCount = none ∨ ∃ h, s.berth.heading = some h ∧ (readerAt s h).faultState = .fault

/-- A NORMAL reader's line transition that is a counted step in a physical direction (R17, R19, R20). -/
def countedStep (e dir : End) (lines : LineState) (s : State) : Prop :=
  (readerAt s e).faultState = .normal ∧ stepRefused dir (readerAt s e) = false ∧
  lines = linesTowards dir (readerAt s e).lineState

/-- The stop settle time expires: it has no time left, or a step of the measuring reader was taken just before the
settle check that the expiry makes of it, and the reader is still NORMAL in ARRIVING or CREEP (R21, R37, R56). -/
def settleExpires (s : State) : Prop :=
  s.stopSettle = some 0 ∨
  ((s.berth.state = .arriving ∨ s.berth.state = .creep) ∧
    ∃ h : End, s.checkOwed = some h ∧ s.berth.heading = some h ∧ (readerAt s h).faultState = .normal)

/-- The stop settle time starts afresh by the command given; a settle check of the reader at `h` is owed after it
exactly where the command is a step of that reader, the measuring one, taken as the expiry stood due (R21). -/
def settleRestarted (c : Instr) (s t : State) : Prop :=
  t.stopSettle = some s.geo.timers.stopSettle ∧
  ∀ h : End, t.checkOwed = some h ↔
    (∃ lines, c = .lineTransition h lines) ∧ s.berth.heading = some h ∧ settleExpires s

/-- Whether a command is one of the events that R45 takes as movement, in a berth that has left ARRIVING. The beam
clear of the measuring end in DEPARTING ends the occupancy and is not meant (R58). -/
def movementTaken (c : Instr) (s : State) : Prop :=
  match c with
  | .stopReport f =>
    inSession f s ∧ f.version = .v2 ∧ trainUnmeasured s ∧
    ∃ r, formStopReport f.version f.payload = some r ∧ -5000 ≤ r.offset ∧ r.offset ≤ 5000 ∧ r.moving = true
  | .presence f =>
    inSession f s ∧ trainUnmeasured s ∧ ∃ p, formPresence f.version f.payload = some p ∧ p.moving = true
  | .beamBreak e => s.berth.heading = some e ∧ (readerAt s e).beam = .clear
  | .beamClear e => s.berth.heading = some e ∧ (readerAt s e).beam = .broken ∧ s.berth.state ≠ .departing
  | .lineTransition e lines =>
    s.berth.heading = some e ∧
    ∃ c, s.berth.stopCount = some c ∧ ∃ dir, countedStep e dir lines s ∧
      s.geo.berth.creepThreshold <
        ((readerAt s e).count + (if dir = (readerAt s e).sense then 1 else -1) - c).natAbs
  | _ => False

/-- The train's motion as a moving report leaves it, and as it stood after any other movement (R36). -/
def motionAfter (c : Instr) (s t : State) : Prop :=
  match c with
  | .stopReport _ => t.berth.trainMotion = some .moving ∧ t.berth.trainReportedFrontX = none
  | .presence _ =>
    t.berth.trainMotion = some .moving ∧ t.berth.trainReportedFrontX = s.berth.trainReportedFrontX
  | _ =>
    t.berth.trainMotion = s.berth.trainMotion ∧ t.berth.trainReportedFrontX = s.berth.trainReportedFrontX

/-! ## The door summary (R50, R163) -/

/-- One line of a DOOR_SUMMARY: the train door, its mark by the session's version, and the platform door it is paired
with. -/
def summaryLine (v : Version) (doors : Tab 40 DoorRecord) (enable : DoorSet) (e : PairEntry) : SentSummaryEntry :=
  let paired : Option Door := if e.paired = true then e.nearest else none
  let mark : DoorMark :=
    match paired with
    | none => .unpaired
    | some d =>
      if enable.get d = true then .served else if (doors.get d).cutOut = true then .unservedCutout else .unservedFault
  ⟨e.trainDoor, (match v with | .v1 => .v1 (decide (mark = .served)) | .v2 => .v2 mark), paired⟩

/-- The lines of a DOOR_SUMMARY: one for each train door while the train view exists (R15), none otherwise. -/
def summaryLines (v : Version) (doors : Tab 40 DoorRecord) (enable : DoorSet) (b : BerthRecord) :
    List SentSummaryEntry :=
  if b.formationSlot = none ∨ b.heading = none then [] else b.pairing.map (summaryLine v doors enable)

/-- A door has left the enable set of a RELEASED berth: it entered FAULT, EMERGENCY or ISOLATED (R51). -/
def leftEnableSet (d : Door) (s t : State) : Prop :=
  s.berth.state = .released ∧ s.berth.enableSet.get d = true ∧ (doorAt t d).state ≠ (doorAt s d).state ∧
  ((doorAt t d).state = .fault ∨ (doorAt t d).state = .emergency ∨ (doorAt t d).state = .isolated)

/-! ## Sent bytes (R177) -/

/-- The whole number of `n` bytes from the byte `i` on. -/
def numberAt (p : List Byte) (i n : Nat) : Nat := beNat ((p.drop i).take n)

/-- An enumeration's byte: the place of the value in the table that defines it, counted from 1; 0 where it is absent. -/
def codedAt {α : Type} (table : List α) (o : Option α) (p : List Byte) (i : Nat) : Prop :=
  match o with
  | none => numberAt p i 1 = 0
  | some a => 1 ≤ numberAt p i 1 ∧ table[numberAt p i 1 - 1]? = some a

/-- A yes or no byte. -/
def flagAt (b : Bool) (p : List Byte) (i : Nat) : Prop := numberAt p i 1 = if b = true then 1 else 0

/-- An optional signed field of four bytes behind its presence byte. -/
def optionalAt (o : Option Int) (p : List Byte) (i : Nat) : Prop :=
  flagAt o.isSome p i ∧ beInt ((p.drop (i + 1)).take 4) = o.getD 0

/-- A set of flags: flag `k` is the bit of weight 2 to the `k mod 8` in byte `k div 8`. -/
def flagsAt {n : Nat} (t : Fin n → Bool) (p : List Byte) (i : Nat) : Prop :=
  ∀ k : Fin n, (numberAt p (i + k.val / 8) 1).testBit (k.val % 8) = t k

/-- A number that fits four signed bytes, if there is one. -/
def fits4 (o : Option Int) : Prop := -2147483648 ≤ o.getD 0 ∧ o.getD 0 < 2147483648

/-- The berth states, outcomes and position sources in the order of R32's tables. -/
def berthTable : List BerthState := [.empty, .arriving, .stopped, .released, .dispatching, .departing, .creep]
def outcomeTable : List AlignOutcome := [.aligned, .misaligned, .gross, .unknown, .unverified]
def sourceTable : List PositionSource := [.reader, .trainReport, .none]

/-- The causes in the order of chapter 7's table: DOORS, RELEASE, GAP, MODE, SURVEY, CREEP. -/
def causeFlags (c : CauseSet) (k : Fin 6) : Bool :=
  match k with
  | 0 => c.doors
  | 1 => c.release
  | 2 => c.gap
  | 3 => c.mode
  | 4 => c.survey
  | 5 => c.creep

/-! ## Bytes of the read records (R16, R32, R84, R101, R107, R123, R177)

An item whose encoding R177 leaves open is a free value of any length (assumption 20); what follows it is counted from
its end. -/

/-- A signed field of two bytes. -/
def signedAt (v : Int) (p : List Byte) (i : Nat) : Prop := beInt ((p.drop i).take 2) = v

/-- A number that two signed bytes can carry. -/
def fits2 (v : Int) : Prop := -32768 ≤ v ∧ v < 32768

/-- The door states in the order of the table of chapter 4. -/
def doorTable : List DoorState :=
  [.absent, .init, .closedLocked, .unlocking, .opening, .opened, .closeWait, .closing, .reopening, .closeBlocked,
   .emergency, .isolated, .fault]

/-- The length of one door of a STATUS_READ: seven bytes for a report, the free bytes where there is none. -/
def doorStatusSize (d : DoorStatus) : Nat :=
  8 + if d.lastReport.isSome = true then 7 else (Config.unstatedEncoding 0).length

/-- One door of a STATUS_READ at its place (R67, R84). -/
def doorStatusAt (d : DoorStatus) (p : List Byte) (i : Nat) : Prop :=
  codedAt doorTable (some d.state) p i ∧ flagAt d.cutOut p (i + 1) ∧ flagAt d.gapBypass p (i + 2) ∧
  numberAt p (i + 3) 1 = d.reopenCount ∧ flagAt d.slowClose p (i + 4) ∧
  codedAt [.obstruction, .doorway] d.blockedCause p (i + 5) ∧
  codedAt [.unlockTimeout, .openTimeout, .closeTimeout, .adoption, .motor, .isolation, .comms] d.faultCause p (i + 6) ∧
  numberAt p (i + 7) 1 = d.missCount ∧
  ∀ r, d.lastReport = some r →
    codedAt [.closed, .opened, .moving, .intermediate] (some r.leaf) p (i + 8) ∧ flagAt r.locked p (i + 9) ∧
    flagAt r.obstruction p (i + 10) ∧ codedAt [.normal, .pulled] (some r.handle) p (i + 11) ∧
    codedAt [.normal, .isolated] (some r.isolation) p (i + 12) ∧ flagAt r.motorFault p (i + 13) ∧
    flagAt r.unitRestarted p (i + 14)

/-- The length of one release record: one byte for the car of a TRAIN record, the free bytes for any other. -/
def releaseSize (r : ReleaseRecord) : Nat :=
  15 + match r.source with
    | .train _ => 1
    | _ => (Config.unstatedEncoding 1).length

/-- One release record at its place, from `i` up to `j` (R107). -/
def releaseRecordAt (r : ReleaseRecord) (p : List Byte) (i j : Nat) : Prop :=
  numberAt p i 1 = r.number ∧
  (numberAt p (i + 1) 1, numberAt p (i + 2) 1) =
    (match r.source with
    | .handle d => (1, d.val + 1)
    | .per => (2, 0)
    | .fire => (3, 0)
    | .train _ => (4, 0)
    | .powerOn => (5, 0)) ∧
  (∀ car, r.source = .train car → numberAt p (i + 3) 1 = car) ∧
  numberAt p (j - 12) 2 = r.trainId.getD 0 ∧ codedAt [.active, .cleared] (some r.state) p (j - 10) ∧
  numberAt p (j - 9) 4 = r.firstTime ∧ numberAt p (j - 5) 4 = r.lastTime ∧ numberAt p (j - 1) 1 = r.occurrences

/-- The numbers of a release record fit their bytes. -/
def releaseFits (r : ReleaseRecord) : Prop :=
  r.number < 256 ∧ (∀ car, r.source = .train car → car < 256) ∧ r.trainId.getD 0 < 65536 ∧
  r.firstTime < 4294967296 ∧ r.lastTime < 4294967296 ∧ r.occurrences < 256

/-- One entry of a pairing list at its place (R32). -/
def pairEntryAt (e : PairEntry) (p : List Byte) (i : Nat) : Prop :=
  numberAt p i 1 = e.trainDoor ∧ numberAt p (i + 1) 1 = (match e.nearest with | some d => d.val + 1 | none => 0) ∧
  optionalAt e.error p (i + 2) ∧ flagAt e.paired p (i + 7)

/-- The numbers of a berth record fit their bytes. -/
def berthFits (b : BerthRecord) : Prop :=
  b.trainId.getD 0 < 65536 ∧ b.carCount.getD 0 < 256 ∧ fits4 b.measuredFrontX ∧ fits4 b.trainReportedFrontX ∧
  b.tEff.getD 0 < 65536 ∧ b.pairing.length < 256 ∧ (∀ e ∈ b.pairing, e.trainDoor < 256 ∧ fits4 e.error) ∧
  fits4 b.worstError ∧ fits4 b.adviceError ∧ b.authorisation.getD 0 < 65536 ∧ fits2 (b.stopCount.getD 0)

/-- The berth record from the first byte on, its pairing list ending at `m` (R32). -/
def berthRecordAt (b : BerthRecord) (p : List Byte) (m : Nat) : Prop :=
  codedAt berthTable (some b.state) p 0 ∧ numberAt p 1 2 = b.trainId.getD 0 ∧
  codedAt [.v1, .v2] b.protocolVersion p 3 ∧ numberAt p 4 1 = b.carCount.getD 0 ∧
  numberAt p 5 1 = (match b.formationSlot with | some k => k.val + 1 | none => 0) ∧ codedAt [.a, .b] b.heading p 6 ∧
  codedAt sourceTable (some b.positionSource) p 7 ∧ optionalAt b.measuredFrontX p 8 ∧
  optionalAt b.trainReportedFrontX p 13 ∧ codedAt [.standing, .moving] b.trainMotion p 18 ∧
  codedAt outcomeTable b.outcome p 19 ∧ numberAt p 20 2 = b.tEff.getD 0 ∧ numberAt p 22 1 = b.pairing.length ∧
  (∀ (i : Nat) (e : PairEntry), b.pairing[i]? = some e → pairEntryAt e p (23 + 8 * i)) ∧
  optionalAt b.worstError p m ∧ optionalAt b.adviceError p (m + 5) ∧
  numberAt p (m + 10) 2 = b.authorisation.getD 0 ∧ flagAt b.partialAuthorised p (m + 12) ∧
  flagsAt b.enableSet.get p (m + 13) ∧ flagsAt b.gapWatch.get p (m + 18) ∧ flagAt b.closeRequested p (m + 23) ∧
  flagAt b.stopCount.isSome p (m + 24) ∧ signedAt (b.stopCount.getD 0) p (m + 25) ∧ flagAt b.linkLost p (m + 27) ∧
  flagAt b.quiet p (m + 28) ∧ flagAt b.edgeClear p (m + 29)

/-- A reader record with its health line level at its place (R16, R27, assumption 21). -/
def readerRecordAt (r : Reader) (p : List Byte) (i : Nat) : Prop :=
  signedAt r.count p i ∧ signedAt r.capture p (i + 2) ∧ flagAt r.captureValid p (i + 4) ∧
  codedAt [.a, .b] (some r.sense) p (i + 5) ∧
  codedAt [.towards .a, .towards .b, .none] (some r.lastStep) p (i + 6) ∧ numberAt p (i + 7) 1 = r.lineState.val ∧
  flagAt r.edgeSeen p (i + 8) ∧ flagAt r.directionChange p (i + 9) ∧ flagAt r.saturated p (i + 10) ∧
  numberAt p (i + 11) 1 = r.illegalCount ∧ codedAt [.normal, .fault] (some r.faultState) p (i + 12) ∧
  codedAt [.health, .illegal, .saturated] r.faultCause p (i + 13) ∧
  codedAt [.broken, .clear] (some r.beam) p (i + 14) ∧ codedAt [true, false] (some r.health) p (i + 15)

/-- A channel record behind its number and its settings (R87, R101). -/
def channelRecordAt (c : Channel) (e : SensingEntry) (r : ChannelRecord) (p : List Byte) : Prop :=
  numberAt p 0 1 = c.val + 1 ∧ flagAt e.enabled p 1 ∧ numberAt p 2 2 = e.threshold ∧ numberAt p 4 1 = e.nOn ∧
  numberAt p 5 1 = e.nOff ∧ codedAt [.off, .settling, .learning, .active, .fault] (some r.state) p 6 ∧
  (numberAt p 7 2 : Int) = r.baseline ∧ numberAt p 9 2 = r.learnSum ∧ numberAt p 11 1 = r.learnCount ∧
  numberAt p 12 1 = r.consecutive ∧ flagAt r.occupied p 13 ∧ numberAt p 14 1 = r.railCount ∧
  (∀ x, r.lastSample = some x → p.length = 18 ∧ numberAt p 15 2 = x.val) ∧ 16 ≤ p.length ∧
  flagAt r.tracking p (p.length - 1)

/-- The numbers of a channel record and its settings fit their bytes. -/
def channelFits (e : SensingEntry) (r : ChannelRecord) : Prop :=
  e.threshold < 65536 ∧ e.nOn < 256 ∧ e.nOff < 256 ∧ 0 ≤ r.baseline ∧ r.baseline < 65536 ∧ r.learnSum < 65536 ∧
  r.learnCount < 256 ∧ r.consecutive < 256 ∧ r.railCount < 256

/-! ## Configuration entries as their fields (R1, R4, R6, R7, R8) -/

/-- The fields of each entry, in the order of its table; a yes is 1. -/
def doorGeometryFields (e : DoorGeometry) : List Int := [if e.fitted = true then 1 else 0, e.centreX, e.clearWidth]

def berthConstantsFields (e : BerthConstants) : List Int :=
  [e.beamAX, e.beamBX, e.readerAX, e.readerBX, e.readerTrimA, e.readerTrimB, e.stopMarkAX, e.stopMarkBX,
   e.crossCheckLimit, e.creepThreshold]

def timerFields (e : TimerSettings) : List Int :=
  [e.unlockTimeout, e.openTimeout, e.closeTimeout, e.closeWarningLead, e.warningOn, e.warningOff, e.doorwayWaitLimit,
   e.reopenHold, e.stopSettle, e.secureConfirm]

def sensingFields (e : SensingEntry) : List Int := [if e.enabled = true then 1 else 0, e.threshold, e.nOn, e.nOff]

def formationFields (e : Formation) : List Int :=
  [if e.valid = true then 1 else 0, e.fleetCode, e.carCount, e.stepLength, e.tolerance,
   if e.partialPermitted = true then 1 else 0]

/-- The ranges of the fields of each table. -/
def fieldRanges (table : Nat) : List (Int × Int) :=
  match table with
  | 1 => [(0, 1), (0, 199999), (1200, 2400)]
  | 2 =>
    [(2500, 199999), (0, 197499), (0, 199999), (0, 199999), (-50, 50), (-50, 50), (0, 199999), (0, 199999),
     (50, 1000), (1, 10)]
  | 3 =>
    [(20, 500), (100, 1000), (100, 1000), (50, 500), (5, 100), (5, 100), (200, 3000), (50, 500), (50, 500), (10, 200)]
  | 4 => [(0, 1), (1, 1023), (1, 15), (1, 15)]
  | 5 => [(0, 1), (1, 65535), (1, 8), (80, 120), (50, 400), (0, 1)]
  | _ => []

/-- How many bytes carry each scalar field of a table. -/
def fieldWidths (table : Nat) : List Nat :=
  match table with
  | 1 => [1, 4, 2]
  | 2 => [4, 4, 4, 4, 4, 4, 4, 4, 2, 1]
  | 3 => [2, 2, 2, 2, 1, 1, 2, 2, 2, 1]
  | 4 => [1, 2, 1, 1]
  | 5 => [1, 2, 1, 1, 2, 1]
  | _ => []

/-- A value that the bytes of a field can carry; the two reader trims are signed. -/
def carriedFits (table i : Nat) (v : Int) : Prop :=
  if table = 2 ∧ (i = 4 ∨ i = 5) then -2147483648 ≤ v ∧ v < 2147483648
  else 0 ≤ v ∧ v < 256 ^ ((fieldWidths table)[i]?.getD 0)

/-- A number in `n` bytes, big-endian, two's complement. -/
def numberBytes (n : Nat) (v : Int) : List Byte :=
  (List.range n).map fun i => BitVec.ofInt 8 (v / 256 ^ (n - 1 - i))

/-- The bytes of the carried scalar fields, in the order of the table. -/
def carriedBytes (table : Nat) (l : List (Option Int)) : List Byte :=
  (l.zip (fieldWidths table)).flatMap fun p =>
    match p.1 with
    | some v => numberBytes p.2 v
    | none => []

/-- The bytes of a carried train door list: its length, then five bytes a door. -/
def trainDoorBytes (doors : Option (List (Nat × Nat))) : List Byte :=
  match doors with
  | some l => numberBytes 1 l.length ++ l.flatMap fun d => numberBytes 4 d.1 ++ numberBytes 1 d.2
  | none => []

/-- The payload of a CONFIG_WRITE that carries a request (R11, R177): the table, the entry number, the field set in two
bytes, its first byte the lower, and the bytes of the fields in the set, in the order of the table, with nothing missing
and nothing left over. A field set that names a field beyond those of the table carries the first such, and what stands
behind the bytes of the defined fields has no layout; nor has anything behind the field set of a table that there is
not (assumption 12). -/
def configWriteBytes (p : List Byte) (r : ConfigRequest) : Prop :=
  ∃ (table entry f0 f1 : Byte) (rest : List Byte), p = table :: entry :: f0 :: f1 :: rest ∧
    r.table = table.toNat ∧ r.entry = entry.toNat ∧
    let named (i : Nat) : Bool := (f0.toNat + 256 * f1.toNat).testBit i
    let defined : Nat := (fieldRanges r.table).length + if r.table = 5 then 1 else 0
    let bytes : List Byte := carriedBytes r.table r.values ++ trainDoorBytes r.trainDoors
    if 1 ≤ r.table ∧ r.table ≤ 5 then
      r.values.length = (fieldRanges r.table).length ∧
      (∀ i : Nat, i < r.values.length → (r.values[i]?.join).isSome = named i) ∧
      (∀ (i : Nat) (v : Int), r.values[i]? = some (some v) → carriedFits r.table i v) ∧
      r.trainDoors.isSome = (r.table == 5 && named 6) ∧
      (∀ ds, r.trainDoors = some ds → ds.length ≤ 255 ∧ ∀ d ∈ ds, d.1 < 4294967296 ∧ d.2 < 256) ∧
      (match r.undefined with
        | none => rest = bytes ∧ ∀ i : Nat, defined ≤ i → named i = false
        | some k =>
          ∃ (i : Nat) (behind : List Byte), k = i + 1 ∧ defined ≤ i ∧ named i = true ∧
            (∀ j : Nat, defined ≤ j → j < i → named j = false) ∧ rest = bytes ++ behind)
    else r.values = [] ∧ r.trainDoors = none ∧ r.undefined = none

/-- Every carried scalar field lies in its range. -/
def valuesInRange (r : ConfigRequest) : Prop :=
  ∀ (i : Nat) (v lo hi : Int), r.values[i]? = some (some v) → (fieldRanges r.table)[i]? = some (lo, hi) →
    lo ≤ v ∧ v ≤ hi

/-- A carried train door list has at most 40 doors, each offset in its range and each car index from 1 to the car count
of the record: the carried count, or the stored one of the slot that the write names (R8, assumption 17). -/
def trainDoorsFit (g : Geo) (r : ConfigRequest) : Prop :=
  ∀ l, r.trainDoors = some l → l.length ≤ 40 ∧ ∀ d ∈ l, d.1 ≤ 199999 ∧ 1 ≤ d.2 ∧
    ∃ k, slotOfNumber r.entry = some k ∧
      (d.2 : Int) ≤ (r.values[2]?.join).getD ((g.formations.get k).carCount : Int)

/-- The new fields are those carried, where they are carried, and the old ones elsewhere (R11). -/
def carriedOrStored (r : ConfigRequest) (old new : List Int) : Prop :=
  ∀ (i : Nat) (v : Int), old[i]? = some v → new[i]? = some ((r.values[i]?.join).getD v)

/-! ## Consistency of the configuration (R2, R9, R10) -/

/-- Two fitted doors, `j` the lower, with no fitted door between them (R2). -/
def neighbouring (t : Tab 40 DoorGeometry) (j k : Door) : Prop :=
  j < k ∧ (t.get j).fitted = true ∧ (t.get k).fitted = true ∧ ∀ e : Door, j < e → e < k → (t.get e).fitted = false

/-- Door `k` stands beyond door `j`, and their clear openings do not overlap (R2). -/
def openingsClear (t : Tab 40 DoorGeometry) (j k : Door) : Prop :=
  (t.get j).centreX < (t.get k).centreX ∧
  (((t.get j).clearWidth + (t.get k).clearWidth : Nat) : Int) ≤
    2 * (((t.get k).centreX : Int) - (t.get j).centreX)

/-- The structure of a valid formation (R9). -/
def structured (f : Formation) : Prop :=
  f.trainDoors ≠ [] ∧ f.trainDoors.length ≤ 40 ∧ (∀ d ∈ f.trainDoors, d.carIndex ≤ f.carCount) ∧
  ∀ (i : Nat) (a b : TrainDoor), f.trainDoors[i]? = some a → f.trainDoors[i + 1]? = some b →
    a.offset < b.offset ∧ a.carIndex ≤ b.carIndex

/-- A valid slot of the same fleet code and car count (R9). -/
def sameIdentity (g f : Formation) : Prop :=
  g.valid = true ∧ g.fleetCode = f.fleetCode ∧ g.carCount = f.carCount

/-- A formation that passes the spacing validation (R10). -/
def spaced (t : Tab 40 DoorGeometry) (f : Formation) : Prop :=
  (∀ j k : Door, neighbouring t j k → 2 * (f.tolerance : Int) < ((t.get k).centreX : Int) - (t.get j).centreX) ∧
  ∀ (i : Nat) (a b : TrainDoor), f.trainDoors[i]? = some a → f.trainDoors[i + 1]? = some b →
    2 * (f.tolerance : Int) < (b.offset : Int) - a.offset

/-! ## Door records as a state entry leaves them (R67 to R76, R82) -/

/-- A door's record with a valid report stored and the miss count zeroed (R64). -/
def heardRecord (rep : Report) (r : DoorRecord) : DoorRecord := { r with lastReport := some rep, missCount := 0 }

/-- A door under HOLD with no state timer, no close pending, no blocked cause and no cadence, as entry to CLOSED_LOCKED,
EMERGENCY, ISOLATED or FAULT leaves it (R67, R82), with the fault cause given. -/
def heldRecord (st : DoorState) (cause : Option DoorFaultCause) (r : DoorRecord) : DoorRecord :=
  { r with
    state := st, command := some .hold, stateTimer := none, closePending := false, blockedCause := none,
    faultCause := cause, warningPhase := .none, warningTimer := none }

/-- A door that has entered CLOSED_LOCKED, its reopen count and slow close gone with it (R71). -/
def lockedRecord (r : DoorRecord) : DoorRecord :=
  { heldRecord .closedLocked none r with reopenCount := 0, slowClose := false }

/-- A door that has entered OPEN under a command (R67): no state timer, no causes, no cadence. -/
def openedRecord (cmd : Option Command) (r : DoorRecord) : DoorRecord :=
  { r with
    state := .opened, command := cmd, stateTimer := none, blockedCause := none, faultCause := none,
    warningPhase := .none, warningTimer := none }

/-- A door that has entered UNLOCKING (R68). -/
def unlockingRecord (tm : TimerSettings) (r : DoorRecord) : DoorRecord :=
  { r with
    state := .unlocking, command := some .unlockOpen, stateTimer := some ⟨.unlock, tm.unlockTimeout⟩,
    blockedCause := none, faultCause := none, warningPhase := .none, warningTimer := none }

/-- A door that has entered OPENING (R68). -/
def openingRecord (tm : TimerSettings) (r : DoorRecord) : DoorRecord :=
  { r with
    state := .opening, command := some .unlockOpen, stateTimer := some ⟨.opening, tm.openTimeout⟩,
    blockedCause := none, faultCause := none, warningPhase := .none, warningTimer := none }

/-- A door that has entered CLOSE_WAIT with slow close and close pending as given (R70, R82): the command it was under
stays, a new lead runs, and the cadence starts in phase ON. -/
def closeWaitRecord (tm : TimerSettings) (slow closePending : Bool) (r : DoorRecord) : DoorRecord :=
  { r with
    state := .closeWait, slowClose := slow, closePending := closePending, blockedCause := none, faultCause := none,
    stateTimer := some ⟨.lead, tm.closeWarningLead⟩, warningPhase := .on, warningTimer := some tm.warningOn }

/-- A door that has entered CLOSING under a command (R70): the close timeout runs, and the cadence runs on. -/
def closingRecord (tm : TimerSettings) (cmd : Command) (r : DoorRecord) : DoorRecord :=
  { r with
    state := .closing, command := some cmd, stateTimer := some ⟨.close, tm.closeTimeout⟩, blockedCause := none,
    faultCause := none }

/-- A close that has been reversed (R71): the reopen count advances, the third reversal sets slow close, the open timeout
runs, close pending stays and the cadence runs on. -/
def reversedRecord (tm : TimerSettings) (r : DoorRecord) : DoorRecord :=
  { r with
    state := .reopening, command := some .reopen, reopenCount := r.reopenCount + 1
    slowClose := r.slowClose || r.reopenCount == 2
    stateTimer := some ⟨.opening, tm.openTimeout⟩, blockedCause := none, faultCause := none }

/-- A door that has entered CLOSE_BLOCKED with a cause (R72): an obstruction puts it under REOPEN, the doorway keeps the
command; the cadence stops and close pending stays. -/
def blockedRecord (cause : BlockedCause) (r : DoorRecord) : DoorRecord :=
  { r with
    state := .closeBlocked, blockedCause := some cause
    command := match cause with | .obstruction => some .reopen | .doorway => r.command
    stateTimer := none, faultCause := none, warningPhase := .none, warningTimer := none }

/-- A door that adoption has left in INIT (R66, R67): under status polls with the open timeout running. -/
def adoptingRecord (tm : TimerSettings) (r : DoorRecord) : DoorRecord :=
  { r with
    state := .init, command := none, stateTimer := some ⟨.opening, tm.openTimeout⟩, reopenCount := 0,
    slowClose := false, closePending := false, blockedCause := none, faultCause := none, warningPhase := .none,
    warningTimer := none }

/-- A door has changed in a field that sets its group's change mark (R84). -/
abbrev doorDiffers (s t : State) (d : Door) : Prop :=
  (doorAt t d).state ≠ (doorAt s d).state ∨ (doorAt t d).cutOut ≠ (doorAt s d).cutOut ∨
    (doorAt t d).gapBypass ≠ (doorAt s d).gapBypass

/-- The change marks follow the doors (R84): the groups of the doors that have changed are marked, and every other mark
is as it was. -/
def marksFollow (s t : State) : Prop :=
  ∀ g : Fin 5, t.dlc.marks.get g = true ↔
    s.dlc.marks.get g = true ∨ ∃ d : Door, doorGroup d = g ∧ doorDiffers s t d

/-! ## State entries that several commands make -/

/-- Entry to CREEP (R56): the enable set is emptied, quiet becomes no, the stop settle time starts and the CREEP flag is
set; every other field of the berth record but the motion that a moving report states (R36), and every door record, stay
as they are. -/
def creepEntered (s t : State) : Prop :=
  t.berth = { s.berth with
    state := .creep, enableSet := DoorSet.empty, quiet := false, trainMotion := t.berth.trainMotion,
    trainReportedFrontX := t.berth.trainReportedFrontX } ∧
  settleStarted s t ∧ t.departureQuiet = s.departureQuiet ∧
  t.slp.flags = s.slp.flags.set (AttentionFlag.index .creep) true ∧ t.mac.berthView = .creep ∧
  keepsBut [.links, .readers, .berth, .views, .test, .secure, .flags] s t

/-- An open command taken by a door's state, the whole record, by the rows of R68. A REOPENING door whose reopen hold
runs goes OPEN, where the close that the BSQ hands a door that enters OPEN (R53) meets it if `again` holds. Where `twice`
holds the event hands the door a second open command, which finds a CLOSED_LOCKED door UNLOCKING already; the other rows
come to the same twice. -/
def openTaken (again twice : Prop) (s t : State) (d : Door) : Prop :=
  let old := doorAt s d
  let new := doorAt t d
  match old.state with
  | .closedLocked =>
    (¬twice → new = unlockingRecord s.geo.timers old) ∧
    (twice → new = { unlockingRecord s.geo.timers old with closePending := false })
  | .unlocking | .opening => new = { old with closePending := false }
  | .closeWait | .closing =>
    new = { old with
      state := .reopening, command := some .reopen, stateTimer := some ⟨.opening, s.geo.timers.openTimeout⟩,
      reopenCount := 0, closePending := false, blockedCause := none, faultCause := none }
  | .reopening =>
    if timerIs .reopenHold old = true then
      (¬again → new = { openedRecord old.command old with reopenCount := 0, closePending := false }) ∧
      (again → new = { closeWaitRecord s.geo.timers old.slowClose true old with reopenCount := 0 })
    else new = { old with reopenCount := 0, closePending := false }
  | .closeBlocked => new = { old with command := some .reopen }
  | .opened | .init | .emergency | .isolated | .fault | .absent => new = old

/-- An open command handed to a door that an open request names, by the door's state (R52, R68): doors in other states
are not commanded. The request has made close requested no. -/
def openRequested (s t : State) (d : Door) : Prop :=
  if (doorAt s d).state = .closedLocked ∨ (doorAt s d).state = .closeWait ∨ (doorAt s d).state = .closing ∨
      (doorAt s d).state = .reopening then
    openTaken False False s t d
  else doorAt t d = doorAt s d

/-- Entry of a door to CLOSE_WAIT (R70, R82) with slow close and close pending as given: every other field of its record
is as it was or as the entry leaves it. -/
def closeWaitEntered (slow closePending : Bool) (s t : State) (d : Door) : Prop :=
  doorAt t d = closeWaitRecord s.geo.timers slow closePending (doorAt s d)

/-- A door that goes OPEN is handed a close command at once: a close is requested in CREEP, or in RELEASED for a door of
the enable set, and no PER or FIRE release is in force (R53, R69). -/
abbrev reClosed (s : State) (d : Door) : Prop :=
  s.berth.closeRequested = true ∧ s.dlc.releaseInForce = false ∧
  (s.berth.state = .creep ∨ (s.berth.state = .released ∧ s.berth.enableSet.get d = true))

/-- What a change of a channel does to its door (R70, R71, R79, R102): a GAP channel's entry to ACTIVE clears the gap
bypass; a doorway that stops being occupied, or leaves ACTIVE, ends a wait for it, and one newly occupied reverses a close, or blocks it
once three reversals have been counted; any other change leaves the door as it was. -/
def channelActsOnDoor (c : Channel) (s t : State) : Prop :=
  let d := channelDoor c
  let old := doorAt s d
  let new := doorAt t d
  if isGap c = true then
    new =
      if (channelAt s c).state ≠ .active ∧ (channelAt t c).state = .active then { old with gapBypass := false }
      else old
  else
    (old.state = .closeWait → timerIs .doorwayWait old = true → (channelAt s c).state = .active →
      (channelAt s c).occupied = true →
      if (channelAt t c).state = .active ∧ (channelAt t c).occupied = true then new = old
      else
        new = closingRecord s.geo.timers
          (if old.slowClose = true ∨ (channelAt t c).state ≠ .active then .slowCloseLock else .closeLock) old) ∧
    (old.state = .closing → (channelAt s c).occupied = false → (channelAt t c).occupied = true →
      if old.reopenCount < 3 then new = reversedRecord s.geo.timers old
      else
        new = blockedRecord .obstruction old ∧ t.slp.flags.get (AttentionFlag.index .closeBlocked) = true) ∧
    (¬(old.state = .closeWait ∧ timerIs .doorwayWait old = true) →
      ¬(old.state = .closing ∧ (channelAt s c).occupied = false ∧ (channelAt t c).occupied = true) → new = old)

/-- A channel after a change of its enabled setting or of its door's fitted field (R3, R7, R89, R100): with both it goes
from OFF to SETTLING, the baseline, sums and counters zeroed; without one of them it goes to OFF from any state, its
baseline kept; last sample and tracking are kept, and in every other case the record stays as it was. -/
def channelFollowed (inService : Bool) (old new : ChannelRecord) : Prop :=
  new =
    if inService = true then
      if old.state = .off then
        { state := .settling, baseline := 0, learnSum := 0, learnCount := 0, consecutive := 0, occupied := false,
          railCount := 0, lastSample := old.lastSample, tracking := old.tracking }
      else old
    else if old.state = .off then old
    else
      { old with
        state := .off, learnSum := 0, learnCount := 0, consecutive := 0, occupied := false, railCount := 0 }

/-- Entry of a door to FAULT with a cause, `old` being its record as it is made (R67, R76): HOLD, no state timer, no close
pending, no cadence; the DOOR_FAULT flag is set. -/
def doorFaulted (cause : DoorFaultCause) (old : DoorRecord) (s t : State) (d : Door) : Prop :=
  doorAt t d = heldRecord .fault (some cause) old ∧
  t.slp.flags = s.slp.flags.set (AttentionFlag.index .doorFault) true

/-- The HANDLE record of a door cleared (R114, R119). -/
def handleCleared (d : Door) (l : List ReleaseRecord) : List ReleaseRecord :=
  l.map fun r => if r.source = .handle d then { r with state := .cleared } else r

/-- What the BSQ makes of a door's entry to a state, `b` being the record after it (R51, R54): of an enable-set door of a
RELEASED berth, FAULT, EMERGENCY and ISOLATED take it out of the enable set, the gap watch set kept, and with a close
requested and every other enable-set door closed the berth becomes DISPATCHING. -/
def enableSetFollows (st : DoorState) (s : State) (d : Door) (b : BerthRecord) : Prop :=
  let left := st = .fault ∨ st = .emergency ∨ st = .isolated
  let closed := left ∨ st = .closedLocked
  if s.berth.closeRequested = true ∧ closed ∧
      ∀ e : Door, e ≠ d → s.berth.enableSet.get e = true →
        (doorAt s e).state = .closedLocked ∨ (doorAt s e).state = .isolated then
    b = { s.berth with state := .dispatching, enableSet := DoorSet.empty, closeRequested := false }
  else b = { s.berth with enableSet := if left then s.berth.enableSet.set d false else s.berth.enableSet }

/-- The berth after a door's entry to a state by a report, a miss or a timeout (R51, R54, R163): outside the enable set
of a RELEASED berth, and with the state kept, the berth record and the held summary stay; otherwise the record follows
the door, and a door that leaves the enable set gives a fresh summary. The two berth timers stay. -/
def berthFollowsDoor (st : DoorState) (s t : State) (d : Door) : Prop :=
  settleKept s t ∧ t.departureQuiet = s.departureQuiet ∧
  t.mac.berthView = (if t.berth.state = s.berth.state then s.mac.berthView else t.berth.state) ∧
  if s.berth.state = .released ∧ s.berth.enableSet.get d = true ∧ st ≠ (doorAt s d).state then
    enableSetFollows st s d t.berth ∧
    t.tlp.heldSummary =
      (if st = .fault ∨ st = .emergency ∨ st = .isolated then
        some (summaryOf t.dlc.doors { s.berth with enableSet := s.berth.enableSet.set d false })
      else s.tlp.heldSummary)
  else t.berth = s.berth ∧ t.tlp.heldSummary = s.tlp.heldSummary

/-- The train id that a trigger leaves in a record of its identity: that of the berth record for TRAIN, else the one it
had (R107, R109). -/
def trainIdAfter (src : ReleaseSource) (berth old : Option Nat) : Option Nat :=
  match src with
  | .train _ => berth
  | _ => old

/-- The list after a trigger, by the rows of R109 with the fields of R107. Of the identity, an ACTIVE record gets its
last time, and a CLEARED one returns to ACTIVE with its occurrences advanced to at most 255, for TRAIN with the berth
record's train id, each in its place and the rest as they were. With none of the identity and fewer than 16 records, one
is made at the end, its number the lowest that no record holds; with 16, none is made. -/
def triggerRows (now : Nat) (trainId : Option Nat) (src : ReleaseSource) (l after : List ReleaseRecord) : Prop :=
  ((∃ r ∈ l, r.source = src) →
    after.length = l.length ∧
    ∀ (i : Nat) (r : ReleaseRecord), l[i]? = some r →
      (r.source ≠ src → after[i]? = some r) ∧
      (r.source = src → r.state = .active →
        after[i]? = some { r with lastTime := now, trainId := trainIdAfter src trainId r.trainId }) ∧
      (r.source = src → r.state = .cleared →
        after[i]? = some { r with
          state := .active, lastTime := now, trainId := trainIdAfter src trainId r.trainId,
          occurrences := min 255 (r.occurrences + 1) })) ∧
  ((∀ r ∈ l, r.source ≠ src) → l.length < 16 →
    ∃ new : ReleaseRecord, after = l ++ [new] ∧
      1 ≤ new.number ∧ (∀ r ∈ l, r.number ≠ new.number) ∧
      (∀ m, 1 ≤ m → m < new.number → ∃ r ∈ l, r.number = m) ∧
      new.source = src ∧ new.trainId = trainIdAfter src trainId none ∧ new.state = .active ∧
      new.firstTime = now ∧ new.lastTime = now ∧ new.occurrences = 1) ∧
  ((∀ r ∈ l, r.source ≠ src) → 16 ≤ l.length → after = l)

/-- The release action of PER or FIRE, where `acts` holds, of both where `twice` holds (R68, R111): every fitted door that
a release does not skip takes an open command, the close that may wait for it being dropped (R69); every other door
stays as it is, and the marks follow (R84). -/
def releaseTaken (acts twice : Prop) (s t : State) : Prop :=
  marksFollow s t ∧
  ∀ d : Door,
    (acts ∧ fitted s d = true ∧ releaseSkips (doorAt s d).state = false → openTaken False twice s t d) ∧
    (¬(acts ∧ fitted s d = true ∧ releaseSkips (doorAt s d).state = false) → doorAt t d = doorAt s d)

/-- The attention flags after triggers: RELEASE_NEW is set by each, OVERFLOW where one found no room, and no other flag
changes (R109). -/
def triggerFlags (taken full : Bool) (flags : Tab 10 Bool) : Tab 10 Bool :=
  let flags := if taken then flags.set (AttentionFlag.index .releaseNew) true else flags
  if full then flags.set (AttentionFlag.index .overflow) true else flags

/-- An assertion of the PER or FIRE line has been taken (R109, R111): the trigger against the list, with its flags, and
where the record is then ACTIVE the release action. -/
def lineAsserted (src : ReleaseSource) (s t : State) : Prop :=
  t.rlm = { s.rlm with
    list := triggered s.rlm.deviceTime s.berth.trainId src s.rlm.list
    overflow := s.rlm.overflow || overflows s.rlm.list src
    perLine := t.rlm.perLine, fireLine := t.rlm.fireLine } ∧
  (activeOf t.rlm.list src = true ∨ t.rlm.overflow = true) ∧
  t.dlc.releaseInForce = perFireActive t.rlm.list ∧
  t.slp.flags = triggerFlags true (overflows s.rlm.list src) s.slp.flags ∧
  releaseTaken (activeOf t.rlm.list src = true) False s t

/-- A reader at an end after entry to EMPTY (R30): count, capture and illegal count 0, capture valid, edge seen, direction
change and saturated no, last step NONE, sense the default; fault state and cause, line state, beam and health line as
they were. -/
def emptiedReader (e : End) (r : Reader) : Reader :=
  { r with
    count := 0, capture := 0, captureValid := false, sense := e, lastStep := .none, edgeSeen := false,
    directionChange := false, saturated := false, illegalCount := 0 }

/-- Entry to EMPTY (R59, R30, R115, R157), the readers standing as `a` and `b` as it is made: the berth record is emptied,
its timers stop, both readers are zeroed with their default sense, the session ends with everything it held, and every
TRAIN record is cleared, which leaves a PER or FIRE release in force as it was. A door test that has ended stays on
record. -/
def berthEmptied (a b : Reader) (s t : State) : Prop :=
  t.berth = BerthRecord.atEmpty ∧ settleStopped t ∧ t.departureQuiet = none ∧
  t.readerA = emptiedReader .a a ∧ t.readerB = emptiedReader .b b ∧
  t.tlp.session = .none ∧ t.tlp.sessionVersion = none ∧ t.tlp.sessionTrainId = none ∧ t.tlp.heldSummary = none ∧
  t.tlp.statusTimer = none ∧
  t.rlm = { s.rlm with list := clearedWhere isTrain s.rlm.list } ∧
  t.dlc.releaseInForce = perFireActive s.rlm.list ∧ t.mac.berthView = .empty ∧
  keepsBut [.readers, .berth, .views, .releases, .secure, .session, .summary] s t

/-! ## Re-arming -/

/-- The triggers that re-arming takes after a removal has left the list `l` (R118), in their order. -/
def rearmSources (s : State) (l : List ReleaseRecord) : List ReleaseSource :=
  (if s.rlm.fireLine && !activeOf l .fire then [.fire] else []) ++
  (if s.rlm.perLine && !activeOf l .per then [.per] else []) ++
  (allDoors.filter fun d =>
    fitted s d && (doorAt s d).state == .emergency && !activeOf l (.handle d)).map .handle

/-- The list after triggers taken one after the other (R109). -/
def triggeredAll (now : Nat) (trainId : Option Nat) (srcs : List ReleaseSource) (l : List ReleaseRecord) :
    List ReleaseRecord :=
  srcs.foldl (fun l src => triggered now trainId src l) l

/-- Whether one of triggers taken one after the other finds no room (row 4 of R109). -/
def overflowsAny (now : Nat) (trainId : Option Nat) : List ReleaseSource → List ReleaseRecord → Bool
  | [], _ => false
  | src :: rest, l => overflows l src || overflowsAny now trainId rest (triggered now trainId src l)

/-- Records have been removed, leaving the list `l` and the overflow flag `flag`, and re-arming has followed (R118):
the list is `l` after the triggers that re-arming takes, the flag is `flag` or set by a trigger that found no room,
the attention flags are those that triggers set, the doors take the release action of a line trigger that made a record
ACTIVE, and where no trigger was taken nothing more has changed. -/
def rearmed (s t : State) (l : List ReleaseRecord) (flag : Bool) : Prop :=
  let srcs := rearmSources s l
  let full := overflowsAny s.rlm.deviceTime s.berth.trainId srcs l
  t.rlm = { s.rlm with
    list := triggeredAll s.rlm.deviceTime s.berth.trainId srcs l
    overflow := flag || full, warmCount := t.rlm.warmCount } ∧
  t.slp.flags = triggerFlags (!srcs.isEmpty) full s.slp.flags ∧
  releaseTaken (∃ src ∈ srcs, (src = .fire ∨ src = .per) ∧ activeOf t.rlm.list src = true)
    (∀ src : ReleaseSource, src = .fire ∨ src = .per → src ∈ srcs ∧ activeOf t.rlm.list src = true) s t ∧
  (srcs = [] → keepsBut [.links, .releases, .secure] s t) ∧
  (∀ src ∈ srcs, activeOf t.rlm.list src = true ∨ t.rlm.overflow = true) ∧
  t.dlc.releaseInForce = perFireActive t.rlm.list ∧
  keepsBut [.links, .doors, .marks, .views, .releases, .secure, .test, .flags] s t

/-! ## Door test (R149, R150) -/

/-- A RUNNING test record after its door has entered a state. -/
def testEntered (st : DoorState) (r : TestRecord) : TestRecord :=
  match st with
  | .closedLocked => { r with state := .passed, abortCause := none }
  | .opened => { r with state := .aborted, abortCause := some .opened }
  | .fault | .emergency | .isolated | .init | .absent =>
    { r with state := .aborted, abortCause := some (.doorState st) }
  | .unlocking | .opening | .closeWait | .closing | .reopening | .closeBlocked => r

/-- A report by which a door not yet CLOSED_LOCKED is adopted CLOSED_LOCKED while a PER or FIRE release is in force,
which unlocks it again at once (R66, R112). -/
def adoptedThenOpened (c : Instr) (d : Door) (s : State) : Prop :=
  s.dlc.awaitingReply = true ∧ s.dlc.lastPolled = some d ∧ perFireActive s.rlm.list = true ∧
  (doorAt s d).state ≠ .absent ∧ (doorAt s d).state ≠ .closedLocked ∧
  ∃ rep, c = .pollReply d rep ∧ rep.handle = .normal ∧ rep.isolation = .normal ∧ rep.motorFault = false ∧
    rep.leaf = .closed ∧ rep.locked = true ∧
    (rep.unitRestarted = true ∨ (doorAt s d).state = .init ∨ (doorAt s d).state = .isolated)

/-- The attention flags after a report at a door, by the state that the door has then entered (R72, R76, R109): DOOR_FAULT
at entry to FAULT and at each adoption into it, CLOSE_BLOCKED at entry to CLOSE_BLOCKED, and those of a trigger where a
pulled handle is met for the first time or at an adoption; else they are as they were. -/
def reportFlags (d : Door) (rep : Report) (s t : State) : Prop :=
  t.slp.flags =
    if (doorAt t d).state = (doorAt s d).state ∧ (rep.unitRestarted = false ∨ (doorAt s d).state = .absent) then
      s.slp.flags
    else
      match (doorAt t d).state with
      | .fault => s.slp.flags.set (AttentionFlag.index .doorFault) true
      | .closeBlocked => s.slp.flags.set (AttentionFlag.index .closeBlocked) true
      | .emergency => triggerFlags true (overflows s.rlm.list (.handle d)) s.slp.flags
      | _ => s.slp.flags

/-- What a report leaves of the kinds of state that it does not name: a POLL_REPLY may change the door records and marks,
the survey, the polling, the releases, the secure logic, the test, the attention flags and the views, and the berth
record as the state that the door takes asks for; nothing else (R80). A position in ABSENT takes no report. The marks
follow the door, a door whose unit has restarted being marked also where it is unlocked or closed again at once (R84).
No PER or FIRE record comes or goes. -/
def reportFrame (d : Door) (rep : Report) (s t : State) : Prop :=
  (∀ e : Door, e ≠ d → doorAt t e = doorAt s e) ∧ t.dlc.awaitingReply = false ∧ t.dlc.lastPolled = some d ∧
  ((doorAt s d).state = .absent → doorAt t d = doorAt s d) ∧
  t.dlc.marks =
    (if doorDiffers s t d ∨
        (rep.unitRestarted = true ∧ ((doorAt t d).state = .unlocking ∨ (doorAt t d).state = .closeWait)) then
      s.dlc.marks.set (doorGroup d) true
    else s.dlc.marks) ∧
  reportFlags d rep s t ∧
  t.rlm = { s.rlm with list := t.rlm.list, overflow := t.rlm.overflow } ∧
  (s.dlc.releaseInForce = perFireActive s.rlm.list →
    t.dlc.releaseInForce = perFireActive s.rlm.list ∧ perFireActive t.rlm.list = perFireActive s.rlm.list) ∧
  (adoptedThenOpened (.pollReply d rep) d s → berthFollowsDoor .closedLocked s t d) ∧
  (¬adoptedThenOpened (.pollReply d rep) d s → berthFollowsDoor (doorAt t d).state s t d) ∧
  keepsBut [.berth, .doors, .marks, .survey, .polling, .views, .releases, .test, .secure, .summary, .flags] s t

/-- How a RUNNING test stands after a command (R150): ended by the mode, by the berth, or by the state that its door has
entered; by nothing else. -/
def testAfter (c : Instr) (s t : State) (r r' : TestRecord) : Prop :=
  if t.mac.mode ≠ .maintenance then r' = { r with state := .aborted, abortCause := some .mode }
  else if t.berth.state ≠ .empty then r' = { r with state := .aborted, abortCause := some .berth }
  else
    (adoptedThenOpened c r.door s → r' = testEntered .closedLocked r) ∧
    (¬adoptedThenOpened c r.door s →
      ((doorAt t r.door).state = (doorAt s r.door).state → r' = r) ∧
      ((doorAt t r.door).state ≠ (doorAt s r.door).state → r' = testEntered (doorAt t r.door).state r))

/-! ## Payload layouts (11.2, R156 to R159, R177) -/

/-- The bytes of an ANNOUNCE: train id 1 to 65535, a formation number 1 to 15 in version 1 or a fleet code 1 to 65535 in
version 2, car count 1 to 8, heading. -/
def announceBytes (v : Version) (p : List Byte) (a : Announce) : Prop :=
  a.version = v ∧ a.trainId = numberAt p 0 2 ∧ 1 ≤ a.trainId ∧
  (match v with
    | .v1 =>
      p.length = 5 ∧ a.key = .number (numberAt p 2 1) ∧ 1 ≤ numberAt p 2 1 ∧ numberAt p 2 1 ≤ 15 ∧
      a.carCount = numberAt p 3 1 ∧ codedAt [.a, .b] (some a.heading) p 4
    | .v2 =>
      p.length = 6 ∧ a.key = .fleet (numberAt p 2 2) ∧ 1 ≤ numberAt p 2 2 ∧
      a.carCount = numberAt p 4 1 ∧ codedAt [.a, .b] (some a.heading) p 5) ∧
  1 ≤ a.carCount ∧ a.carCount ≤ 8

/-- The bytes of an OPEN_REQ: none in version 1; in version 2 at most eight cars, each 1 to 8, behind their count. -/
def openReqBytes (v : Version) (p : List Byte) (cars : List Nat) : Prop :=
  match v with
  | .v1 => p = [] ∧ cars = []
  | .v2 =>
    p.length = 1 + cars.length ∧ numberAt p 0 1 = cars.length ∧ cars.length ≤ 8 ∧
    ∀ (i car : Nat), cars[i]? = some car → numberAt p (1 + i) 1 = car ∧ 1 ≤ car ∧ car ≤ 8

/-- The bytes of a TRAIN_EMERGENCY: none in version 1, which names car 0; in version 2 a car, 0 to 8. -/
def trainEmergencyBytes (v : Version) (p : List Byte) (car : Nat) : Prop :=
  match v with
  | .v1 => p = [] ∧ car = 0
  | .v2 => p.length = 1 ∧ car = numberAt p 0 1 ∧ car ≤ 8

/-! ## Starts -/

/-- A reader as a start finds it (R31): zeroed, with its default sense, its inputs at the levels found, and in FAULT with
cause HEALTH if its health line is low. -/
def readerStarted (e : End) (l : ReaderLevels) (r : Reader) : Prop :=
  r =
    { count := 0, capture := 0, captureValid := false, sense := e, lastStep := .none, lineState := l.lines,
      edgeSeen := false, directionChange := false, saturated := false, illegalCount := 0,
      faultState := if l.health then .normal else .fault
      faultCause := if l.health then none else some .health
      beam := l.beam, health := l.health }

/-- What a cold start and a warm restart give alike (R31, R61, R84, R85, R105, R137, R147, R153, R165, R170, R174):
the berth EMPTY, the readers at their inputs' levels, every mark set, the survey COMPLETE only with no fitted door,
the scan at the lowest channel not in OFF, secure and permit not asserted, the console as found with no test and no
refusal, every link UP with no session, the flag of a reader found in FAULT set and every other attention flag clear but
the two that line triggers may set, and in the queue every frame that waits discarded (assumptions 4 and 7). -/
def started (l : Levels) (s t : State) : Prop :=
  readerStarted .a l.readerA t.readerA ∧ readerStarted .b l.readerB t.readerB ∧
  t.berth = BerthRecord.atEmpty ∧ settleStopped t ∧ t.departureQuiet = none ∧
  (∀ g : Fin 5, t.dlc.marks.get g = true) ∧ t.dlc.lastPolled = none ∧ t.dlc.awaitingReply = false ∧
  (t.dlc.survey = .complete ↔ ∀ d : Door, fitted t d = false) ∧
  t.dlc.releaseInForce = perFireActive t.rlm.list ∧
  t.ssc.berthView = .empty ∧ t.ssc.lastConverted = none ∧
  goesRound (fun c : Channel => (channelAt t c).state ≠ .off) none t.ssc.inFlight ∧
  t.scl.secure = false ∧ t.scl.permit = false ∧ t.scl.input = sclInputOf t ∧
  t.mac =
    { mode := t.mac.mode, localSwitch := l.localSwitch, maintenanceKey := l.maintenanceKey,
      restoreKey := l.restoreKey, fireLine := l.fireLine, localOpenPressed := l.localOpenPressed,
      localClosePressed := l.localClosePressed, forceClosePressed := l.forceClosePressed, berthView := .empty,
      test := none, lastRefusal := none, refusalCount := 0 } ∧
  t.tlp.link = .up ∧ t.tlp.supervision = some 100 ∧ t.tlp.session = .none ∧ t.tlp.sessionVersion = none ∧
  t.tlp.sessionTrainId = none ∧ t.tlp.heldSummary = none ∧ t.tlp.statusTimer = none ∧ t.tlp.reportSeq = 0 ∧
  t.ilp.link = .up ∧ t.ilp.supervision = some 60 ∧ t.ilp.reportTimer = some 20 ∧ t.ilp.reportSeq = 0 ∧
  t.slp.link = .up ∧ t.slp.supervision = some 500 ∧ t.slp.statusTimer = some 100 ∧
  (∀ f : AttentionFlag, f ≠ .releaseNew → f ≠ .overflow →
    t.slp.flags.get f.index =
      ((f == .readerAFault && !l.readerA.health) || (f == .readerBFault && !l.readerB.health))) ∧
  t.pending = withoutFrames s.pending ∧ t.restartDue = false

end Sys2Proof.Machine
end

