-- ==== Sys2Proof/Certificates/Slice0/Obligations.lean ====
section
/-! DEFINITION. The statements about the model, for the provers. -/

section

open Sys2Proof Sys2Proof.Machine

/-! ## The step -/

/-- A step with a command at the front of the queue is that command on the state with the queue's rest. No rule of the
manual stops the part: every command, in every state, is answered by a next state, and leaves the commands that wait
as they are, but that a start discards the frames among them (R174). It rests on the model's choices of assumptions 2
and 7. -/
def Obligations.StepRunsFrontCommandAndIsAnswered : Prop :=
  (∀ (c : Instr) (rest : List Instr) (s : State), s.pending = c :: rest →
    step s = exec c { s with pending := rest }) ∧
  ∀ (c : Instr) (s : State), ∃ t, exec c s = .next t ∧
    t.pending = if isStart c = true then s.pending.filter (fun w => !isLinkFrame w) else s.pending

/-- The model's choice for a step with no command waiting (assumptions 2, 3 and 29): the event that is due is taken;
with none due, one hundredth of a second passes, in which running timers run down and no settle check is owed any more,
and nothing else changes. Due is the warm restart that a RESTART has begun, with the levels that the inputs show; else
the expiry of the lowest door whose state timer, or else whose warning phase, has no time left; else the first of the
other timers that has none, in the order of assumption 3, a settle check owed counting as a stop settle time that has
none; and nothing where no restart is due and no timer stands at 0. -/
def Obligations.IdleStepTakesDueEventOrTicks : Prop :=
  ∀ s : State, s.pending = [] →
    (∀ c, dueEvent s = some c → step s = exec c s) ∧
    (dueEvent s = none →
      ∃ t, step s = .next t ∧
        t.stopSettle = s.stopSettle.map (· - 1) ∧ t.checkOwed = none ∧
        t.departureQuiet = s.departureQuiet.map (· - 1) ∧
        t.scl = { s.scl with confirm := s.scl.confirm.map (· - 1) } ∧
        t.tlp = { s.tlp with
          supervision := s.tlp.supervision.map (· - 1), statusTimer := s.tlp.statusTimer.map (· - 1) } ∧
        t.ilp = { s.ilp with
          supervision := s.ilp.supervision.map (· - 1), reportTimer := s.ilp.reportTimer.map (· - 1) } ∧
        t.slp = { s.slp with
          supervision := s.slp.supervision.map (· - 1), statusTimer := s.slp.statusTimer.map (· - 1) } ∧
        t.rlm = { s.rlm with secondTimer := s.rlm.secondTimer - 1 } ∧
        (∀ d : Door, doorAt t d = { doorAt s d with
          stateTimer := (doorAt s d).stateTimer.map fun tm => { tm with remaining := tm.remaining - 1 }
          warningTimer := (doorAt s d).warningTimer.map (· - 1) }) ∧
        t.berth = s.berth ∧ t.ssc = s.ssc ∧ t.mac = s.mac ∧ t.sent = [] ∧ t.summaryDue = false ∧
        t.dlc.releaseInForce = s.dlc.releaseInForce ∧
        keepsBut [.berth, .doors, .releases, .secure, .links] s t) ∧
    (∀ c, dueEvent s = some c ↔
      (s.restartDue = true ∧ c = .warmRestart
        { readerA := ⟨s.readerA.lineState, s.readerA.health, s.readerA.beam⟩
          readerB := ⟨s.readerB.lineState, s.readerB.health, s.readerB.beam⟩
          perLine := s.rlm.perLine, fireLine := s.rlm.fireLine, localSwitch := s.mac.localSwitch
          maintenanceKey := s.mac.maintenanceKey, restoreKey := s.mac.restoreKey
          localOpenPressed := s.mac.localOpenPressed, localClosePressed := s.mac.localClosePressed
          forceClosePressed := s.mac.forceClosePressed }) ∨
      (s.restartDue = false ∧ ∃ d : Door, doorDue s d c ∧ ∀ e : Door, e < d → ∀ c', ¬doorDue s e c') ∨
      (s.restartDue = false ∧ (∀ (d : Door) (c' : Instr), ¬doorDue s d c') ∧ firstBlockDue s c)) ∧
    (dueEvent s = none ↔
      s.restartDue = false ∧ (∀ (d : Door) (c : Instr), ¬doorDue s d c) ∧ ∀ p ∈ blockExpiries s, p.1 ≠ some 0)

/-- The state after reset meets every invariant stated below, and it is what a cold start makes of itself with the
input levels that it shows. The levels, and the scan and the door loop at their starts, are the model's choices
(assumptions 1 and 4). -/
def Obligations.ResetMeetsInvariants : Prop :=
  secureInv State.reset ∧ fittedInv State.reset ∧ enableInv State.reset ∧ releaseInv State.reset ∧
  rangeInv State.reset ∧ closingInv State.reset ∧ handleInv State.reset ∧ alignedInv State.reset ∧
  pairingInv State.reset ∧ scanInv State.reset ∧ copiesInv State.reset ∧ fireModeInv State.reset ∧
  configInv State.reset ∧ testInv State.reset ∧ surveyInv State.reset ∧
  exec (.coldStart (presentLevels State.reset)) State.reset = .next State.reset

/-! ## Frames on the links (chapter 11) -/

/-- Whatever bytes arrive between two idle gaps, the part meets a well-formed command, and no received bit is lost in
it: the command's bytes are the bytes received. Writing and reading agree: the bytes of every well-formed framed
command, received on its link, are that command again, every bit of its version, sequence and payload included. It
rests on the model's choice of assumption 18. -/
def Obligations.WireBytesAndCommandsAgree : Prop :=
  (∀ (link : Link) (bytes : List Byte),
    (commandOfBytes link bytes).wellFormed = true ∧
    bytesOfCommand (commandOfBytes link bytes) = some (link, bytes)) ∧
  ∀ (c : Instr) (link : Link) (bytes : List Byte), c.wellFormed = true → bytesOfCommand c = some (link, bytes) →
    commandOfBytes link bytes = c

/-! ## Invariants that every step keeps -/

/-- The SCL's inputs are those its neighbours hold, its causes are those of its inputs, secure and the running confirm
timer stand only with no cause, and the permit is asserted exactly with secure in DISPATCHING (R127 to R134). It rests
on the model's choice of assumption 10. -/
def Obligations.SecureLogicInvariantKept : Prop :=
  ∀ s t : State, secureInv s → step s = .next t → secureInv t

/-- Law L3: a door of the enable set is fitted, not cut out and paired, and the berth is RELEASED. -/
def Obligations.EnableSetInvariantKept : Prop :=
  ∀ s t : State, enableInv s → step s = .next t → enableInv t

/-- Law L5 with R107: the release list holds at most 16 records, of different identities and numbers, numbered 1 to 16;
and a step that sets the overflow flag has taken a trigger that found 16 records held and none of its identity, with
both flags of R109 set and what makes the trigger still standing. -/
def Obligations.ReleaseListInvariantKept : Prop :=
  ∀ s t : State, releaseInv s → step s = .next t →
    releaseInv t ∧ (s.rlm.overflow = false → t.rlm.overflow = true → overflowSetByTrigger t)

/-- Laws L6, L7 and L8: every count, baseline, sum and cause of the reader, channel and door records stays within what
the records' tables state. The scanner is idle only with every channel in OFF, and an awaited reply is that of a poll
sent (R62, R88), which rests on the model's choice of assumption 4. -/
def Obligations.RecordRangesAndScanKept : Prop :=
  (∀ s t : State, rangeInv s → step s = .next t → rangeInv t) ∧
  ∀ s t : State, scanInv s → step s = .next t → scanInv t

/-- Law L10: no door is CLOSING while its doorway channel is ACTIVE and occupied. Law L11 with the fitted positions: a
door is EMERGENCY exactly while its last report shows its handle pulled, with the HANDLE record that goes with it, and
a position is ABSENT exactly while it is not fitted. It rests on the model's choice of assumption 15. -/
def Obligations.ClosingAndHandleInvariantsKept : Prop :=
  (∀ s t : State, closingInv s → step s = .next t → closingInv t) ∧
  ∀ s t : State, handleInv s → step s = .next t → handleInv t

/-- Law L9: an ALIGNED outcome has errors within the effective tolerance. Law L4: no platform door is paired with two
train doors, and every paired error lies within the effective tolerance. -/
def Obligations.AlignmentInvariantsKept : Prop :=
  (∀ s t : State, alignedInv s → step s = .next t → alignedInv t) ∧
  ∀ s t : State, pairingInv s → step s = .next t → pairingInv t

/-- Every copy of a value that one block hands another is the owner's value after every step; the mode is FIRE exactly
while the MAC holds the FIRE line asserted (R142); and the store holds what the GEO holds, the fitted doors stand apart
in increasing order, and every valid formation passes the spacing validation (R2, R10, R12). It rests on the model's
choice of assumption 10. -/
def Obligations.HandedCopiesAndConfigurationKept : Prop :=
  (∀ s t : State, copiesInv s → step s = .next t → copiesInv t) ∧
  (∀ s t : State, fireModeInv s → step s = .next t → fireModeInv t) ∧
  ∀ s t : State, configInv s → step s = .next t → configInv t

/-- Law L2: a step that puts a door into UNLOCKING, that sets a CLOSE_WAIT or CLOSING door to REOPENING otherwise than
by a counted reversal, or that puts a CLOSE_BLOCKED door under REOPEN, leaves a ground for opening it: its place in the
enable set, an ACTIVE PER or FIRE record, an ACTIVE emergency of a train whose named car it is paired with, or its own
RUNNING door test in MAINTENANCE with the berth EMPTY. Laws L1 and L12: secure stands for the safe platform, and the
departure permit for one with no enable set, no fitted door elsewhere than CLOSED_LOCKED or ISOLATED, and the berth
DISPATCHING. It rests on the model's choice of assumption 19. -/
def Obligations.DoorsOpenOnlyOnGroundsAndSecureMeansSafe : Prop :=
  (∀ (s t : State) (d : Door), step s = .next t →
    ((doorAt s d).state ≠ .unlocking ∧ (doorAt t d).state = .unlocking) ∨
      ((doorAt s d).state = .closeWait ∧ (doorAt t d).state = .reopening) ∨
      ((doorAt s d).state = .closing ∧ (doorAt t d).state = .reopening ∧
        (doorAt t d).reopenCount ≠ (doorAt s d).reopenCount + 1) ∨
      ((doorAt s d).state = .closeBlocked ∧ (doorAt t d).state = .closeBlocked ∧
        (doorAt s d).command ≠ some .reopen ∧ (doorAt t d).command = some .reopen) →
    openGround t d) ∧
  ∀ s : State, secureInv s → fittedInv s →
    (s.scl.secure = true → platformSafe s) ∧
    (s.scl.permit = true → enableInv s →
      platformSafe s ∧ s.berth.state = .dispatching ∧ ∀ d : Door, s.berth.enableSet.get d = false)

/-! ## What holds of every command -/

/-- A refused request leaves every piece of state as it stood but for its port's supervision and reports (R178). A
frame of a kind not assigned to its link is refused REFUSED_AUTHORITY; a frame that fails a check of R176 is discarded
and changes nothing; and so is any frame that arrives once a RESTART has been taken (R174, R176). It rests on the
model's choices of assumptions 7, 13 and 18. -/
def Obligations.RefusedAndDiscardedFramesChangeNothing : Prop :=
  (∀ (c : Instr) (s t : State) (link : Link) (v : Version) (q : Byte) (r : Reply), exec c s = .next t →
    Output.frame link v q (.reply r) ∈ t.sent → r.result ≠ .done → keepsBut [.links] s t) ∧
  (∀ (f : Frame) (k : Byte) (s : State), s.restartDue = false →
    ∃ t, exec (.unassignedKindFrame f k) s = .next t ∧ refusedAs f k .refusedAuthority .none s t) ∧
  (∀ (link : Link) (bytes : List Byte) (s : State),
    ∃ t, exec (.invalidFrame link bytes) s = .next t ∧ t.sent = [] ∧ keepsBut [] s t ∧
      t.tlp = s.tlp ∧ t.ilp = s.ilp ∧ t.slp = s.slp) ∧
  ∀ (c : Instr) (k : Byte) (f : Frame) (s : State), frameOf c = some (k, f) → s.restartDue = true →
    ∃ t, exec c s = .next t ∧ t.sent = [] ∧ keepsBut [] s t ∧ t.tlp = s.tlp ∧ t.ilp = s.ilp ∧ t.slp = s.slp

/-- The gate and the form, in their order, for every request of every link: MAINTENANCE kinds in another mode; a payload
that fits no layout; a train kind of another version than the session's, or a version 1 STOP_REPORT, without a session
and within an open session of version 1 alike; a door request in another mode than AUTOMATIC; a train kind without a
session (R145, R146, R155, R160, R167, R171, R177). What fits is every payload that has its kind's length and whose
fields lie in their codes and ranges, and the fields that it gives are those at their places: ANNOUNCE, OPEN_REQ and
TRAIN_EMERGENCY by version, STOP_REPORT, PRESENCE, BERTH_AUTHORISE and the station's requests (R156 to R159, 11.2). It
rests on the model's choices of assumptions 13, 17 and 23. -/
def Obligations.GateAndFormRefuseInOrder : Prop :=
  (∀ (c : Instr) (k : Byte) (f : Frame) (s : State), frameOf c = some (k, f) → c.wellFormed = true →
    (∀ g b, c ≠ .unassignedKindFrame g b) → s.restartDue = false →
    ∃ t, exec c s = .next t ∧
      (maintenanceOnly c = true → s.mac.mode ≠ .maintenance → refusedAs f k .refusedMode .none s t) ∧
      ((maintenanceOnly c = true → s.mac.mode = .maintenance) → formFits c = false →
        refusedAs f k .refusedRange .none s t) ∧
      (formFits c = true → needsSession c = true →
        (∀ v, s.tlp.session = .opened → s.tlp.sessionVersion = some v → v ≠ f.version →
          refusedAs f k .refusedUnsupported .none s t) ∧
        (c = .stopReport f → f.version = .v1 → refusedAs f k .refusedUnsupported .none s t) ∧
        (s.tlp.session = .none ∨ s.tlp.sessionVersion = some f.version → automaticOnly c = true →
          s.mac.mode ≠ .automatic → refusedAs f k .refusedMode .none s t) ∧
        (s.tlp.session = .none → ¬(c = .stopReport f ∧ f.version = .v1) →
          (automaticOnly c = true → s.mac.mode = .automatic) → refusedAs f k .refusedState .none s t))) ∧
  (∀ (v : Version) (p : List Byte) (a : Announce), formAnnounce v p = some a ↔ announceBytes v p a) ∧
  (∀ (v : Version) (p : List Byte) (r : StopReport), formStopReport v p = some r ↔
    p.length = 4 ∧ flagAt r.stopped p 0 ∧ flagAt r.moving p 1 ∧ signedAt r.offset p 2) ∧
  (∀ (v : Version) (p : List Byte) (r : Presence), formPresence v p = some r ↔
    p.length = 2 ∧ flagAt r.stopped p 0 ∧ flagAt r.moving p 1) ∧
  (∀ (v : Version) (p : List Byte) (cars : List Nat), formOpenReq v p = some cars ↔ openReqBytes v p cars) ∧
  (∀ (v : Version) (p : List Byte) (car : Nat), formTrainEmergency v p = some car ↔ trainEmergencyBytes v p car) ∧
  ∀ p : List Byte,
    (∀ id : Nat, formTrainId p = some id ↔ p.length = 2 ∧ id = numberAt p 0 2) ∧
    (∀ m : PlatformMode, formMode p = some m ↔
      p.length = 1 ∧ codedAt [.automatic, .localMode, .maintenance, .fire] (some m) p 0) ∧
    (∀ n : Nat, formByte p = some n ↔ p.length = 1 ∧ n = numberAt p 0 1) ∧
    (∀ n : Nat, formRecordNumber p = some n ↔ p.length = 1 ∧ n = numberAt p 0 1 ∧ 1 ≤ n) ∧
    (∀ e : End, formReader p = some e ↔ p.length = 1 ∧ codedAt [.a, .b] (some e) p 0) ∧
    (∀ m : Tab 10 Bool, formFlagMask p = some m ↔ p.length = 2 ∧ flagsAt m.get p 0 ∧ numberAt p 1 1 < 4) ∧
    (∀ time : Nat, formTime p = some time ↔ p.length = 4 ∧ time = numberAt p 0 4) ∧
    (∀ m : Tab 5 Bool, formMarkMask p = some m ↔ p.length = 1 ∧ flagsAt m.get p 0 ∧ numberAt p 0 1 < 32) ∧
    ∀ table entry : Nat, formConfigRead p = some (table, entry) ↔
      p.length = 2 ∧ table = numberAt p 0 1 ∧ entry = numberAt p 1 1

/-- The secure logic follows its inputs: after any command but a start and the confirm timer's expiry it is as it was
where no input has changed, and otherwise acts on the causes of the new inputs as R132 and R134 state. The causes of the
inputs that the blocks hold are exactly those whose facts stand, DOORS, RELEASE, GAP, MODE, SURVEY and CREEP each for
its own, so none stands where the platform is safe (R128 to R130). It rests on the model's choice of assumption 10. -/
def Obligations.SecureLogicFollowsItsInputs : Prop :=
  (∀ s : State, fittedInv s →
    causesStand s (causesOf (sclInputOf s)) ∧ (causesEmpty (causesOf (sclInputOf s)) = true ↔ platformSafe s)) ∧
  ∀ (c : Instr) (s t : State), exec c s = .next t → isStart c = false → c ≠ .secureConfirmExpiry →
    (sclInputOf t = sclInputOf s → t.scl = s.scl) ∧
    (sclInputOf t ≠ sclInputOf s →
      t.scl.input = sclInputOf t ∧ t.scl.causes = causesOf (sclInputOf t) ∧
      (causesEmpty t.scl.causes = false → t.scl.secure = false ∧ t.scl.confirm = none) ∧
      (causesEmpty t.scl.causes = true → s.scl.secure = false → s.scl.confirm = none →
        t.scl.secure = false ∧ t.scl.confirm = some t.geo.timers.secureConfirm) ∧
      (causesEmpty t.scl.causes = true → s.scl.secure = true ∨ s.scl.confirm.isSome = true →
        t.scl.secure = s.scl.secure ∧ t.scl.confirm = s.scl.confirm) ∧
      t.scl.permit = (t.scl.secure && t.berth.state == .dispatching))

/-- BERTH_STATUS, PLATFORM_STATE and STATION_STATUS after a command that is no start: each port reports at once, with
the owners' values and its own report sequence, when a value that makes a sending has changed, and its timer runs anew;
and it reports for no other cause than such a change, the expiry of its timer, its link's return, a taken STATUS_POLL or
a taken ANNOUNCE (R162, R168, R170, R173, R176). Such a value is, for BERTH_STATUS, the berth state, the outcome, secure
or the permit; for PLATFORM_STATE, secure, the permit, the berth state, emergency active or the creep alarm; for
STATION_STATUS, an enabled attention flag that goes from clear to set. A valid frame on a LOST interlocking or station
link, and every taken ANNOUNCE, is followed, after its reply, by its port's report with the values then held, and the
port's timer runs (R156, R166, R170). It rests on the model's choices of assumptions 6, 8 and 10. -/
def Obligations.PortsReportChangesAtOnce : Prop :=
  (∀ s t : State,
    (trainChange (trainValuesOf s) (trainValuesOf t) = true ↔
      t.berth.state ≠ s.berth.state ∨ t.berth.outcome ≠ s.berth.outcome ∨ t.scl.secure ≠ s.scl.secure ∨
      t.scl.permit ≠ s.scl.permit) ∧
    (ilChange (ilValuesOf s) (ilValuesOf t) = true ↔
      t.scl.secure ≠ s.scl.secure ∨ t.scl.permit ≠ s.scl.permit ∨ t.berth.state ≠ s.berth.state ∨
      ¬((∃ r ∈ t.rlm.list, r.state = .active) ↔ ∃ r ∈ s.rlm.list, r.state = .active) ∨
      ¬(t.berth.state = .creep ↔ s.berth.state = .creep)) ∧
    (enabledFlagRaised s t = true ↔
      ∃ i : Fin 10, t.slp.enables.get i = true ∧ s.slp.flags.get i = false ∧ t.slp.flags.get i = true)) ∧
  ∀ (c : Instr) (s t : State), exec c s = .next t → isStart c = false → t.restartDue = false →
    (t.tlp.session = .opened → trainChange (trainValuesOf s) (trainValuesOf t) = true →
      .frame .train (t.tlp.sessionVersion.getD .v2) s.tlp.reportSeq
        (.berthStatus t.tlp.sessionTrainId (trainValuesOf t)) ∈ t.sent ∧
      t.tlp.statusTimer = some Config.berthStatusPeriod) ∧
    (t.ilp.link = .up → ilChange (ilValuesOf s) (ilValuesOf t) = true →
      .frame .interlocking .v2 s.ilp.reportSeq (.platformState (ilValuesOf t)) ∈ t.sent ∧
      t.ilp.reportTimer = some Config.platformStatePeriod ∧ t.ilp.reportSeq = s.ilp.reportSeq + 1) ∧
    (copiesInv s → t.slp.link = .up → enabledFlagRaised s t = true →
      .frame .station .v2 s.slp.reportSeq (.stationStatus t.slp.flags t.slp.enables (stationValuesOf t)) ∈ t.sent ∧
      t.slp.statusTimer = some Config.stationStatusPeriod ∧ t.slp.reportSeq = s.slp.reportSeq + 1) ∧
    (∀ v q id vals, .frame .train v q (.berthStatus id vals) ∈ t.sent →
      trainChange (trainValuesOf s) (trainValuesOf t) = true ∨
      (c = .berthStatusTimerExpiry ∧ s.tlp.statusTimer = some 0) ∨
      ∃ f, c = .announce f ∧ replied f 0x10 .done .none none t) ∧
    (∀ v q vals, .frame .interlocking v q (.platformState vals) ∈ t.sent →
      ilChange (ilValuesOf s) (ilValuesOf t) = true ∨ s.ilp.link = .lost ∨
      (c = .platformStateTimerExpiry ∧ s.ilp.reportTimer = some 0) ∨
      ∃ f, c = .statusPoll f ∧ replied f 0x22 .done .none none t) ∧
    (∀ v q a b vals, .frame .station v q (.stationStatus a b vals) ∈ t.sent →
      enabledFlagRaised s t = true ∨ s.slp.link = .lost ∨
      (c = .stationStatusTimerExpiry ∧ s.slp.statusTimer = some 0)) ∧
    (∀ k f, frameOf c = some (k, f) → f.link = .interlocking → s.ilp.link = .lost → copiesInv s →
      ∃ r rest, t.sent = .frame .interlocking f.version f.seq (.reply r) :: rest ∧
        .frame .interlocking .v2 s.ilp.reportSeq (.platformState (ilValuesOf t)) ∈ rest ∧
        t.ilp.link = .up ∧ t.ilp.reportTimer = some Config.platformStatePeriod) ∧
    (∀ k f, frameOf c = some (k, f) → f.link = .station → s.slp.link = .lost → copiesInv s →
      ∃ r rest, t.sent = .frame .station f.version f.seq (.reply r) :: rest ∧
        .frame .station .v2 s.slp.reportSeq (.stationStatus t.slp.flags t.slp.enables (stationValuesOf t)) ∈ rest ∧
        t.slp.link = .up ∧ t.slp.statusTimer = some Config.stationStatusPeriod) ∧
    ∀ f, c = .announce f → replied f 0x10 .done .none none t → copiesInv s →
      ∃ r rest, t.sent = .frame f.link f.version f.seq (.reply r) :: rest ∧
        .frame .train (t.tlp.sessionVersion.getD .v2) s.tlp.reportSeq
          (.berthStatus t.tlp.sessionTrainId (trainValuesOf t)) ∈ rest ∧
        t.tlp.session = .opened ∧ t.tlp.statusTimer = some Config.berthStatusPeriod

/-- DOOR_SUMMARY after a command that is no start: it is sent within an open session only, with the session's train id
and the held summary, its marks by the session's version; for no other cause than a taken ANNOUNCE, a grant, or a door
that leaves the enable set. A taken ANNOUNCE that finds a summary held keeps it and sends it again; a door of a RELEASED
berth's enable set that enters FAULT, EMERGENCY or ISOLATED leaves a fresh summary held, made for the set without it,
and sent at once if the session is open; the door is out of the set, and where a close is requested and every other door
of the set is closed or isolated the berth becomes DISPATCHING with the set emptied; the rest of the berth record, the
gap watch set with it, stays (R50, R51, R54, R156, R163). It rests on the model's choice of assumption 6. -/
def Obligations.DoorSummaryHeldAndSent : Prop :=
  ∀ (c : Instr) (s t : State), exec c s = .next t → isStart c = false → t.restartDue = false →
    (∀ v q id l, .frame .train v q (.doorSummary id l) ∈ t.sent →
      t.tlp.session = .opened ∧ v = t.tlp.sessionVersion.getD .v2 ∧ id = t.tlp.sessionTrainId ∧
      (∃ held, t.tlp.heldSummary = some held ∧
        l = held.map fun e => ⟨e.trainDoor, (if t.tlp.sessionVersion = some .v1 then .v1 (decide (e.mark = .served))
          else .v2 e.mark), e.paired⟩) ∧
      ((∃ f, c = .announce f ∧ replied f 0x10 .done .none none t) ∨
        (s.berth.state ≠ .released ∧ t.berth.state = .released) ∨ ∃ d, leftEnableSet d s t)) ∧
    (∀ f held, c = .announce f → replied f 0x10 .done .none none t → s.tlp.heldSummary = some held →
      t.tlp.heldSummary = some held ∧
      ∃ q l, .frame .train (t.tlp.sessionVersion.getD .v2) q (.doorSummary t.tlp.sessionTrainId l) ∈ t.sent) ∧
    ∀ d : Door, leftEnableSet d s t →
      t.berth.enableSet.get d = false ∧
      t.berth =
        (if s.berth.closeRequested = true ∧ (∀ e : Door, e ≠ d → s.berth.enableSet.get e = true →
            (doorAt s e).state = .closedLocked ∨ (doorAt s e).state = .isolated) then
          { s.berth with state := .dispatching, enableSet := DoorSet.empty, closeRequested := false }
        else { s.berth with enableSet := s.berth.enableSet.set d false }) ∧
      t.tlp.heldSummary = some (summaryOf t.dlc.doors { t.berth with enableSet := s.berth.enableSet.set d false }) ∧
      (t.tlp.session = .opened → ∀ v, t.tlp.sessionVersion = some v →
        ∃ q, .frame .train v q (.doorSummary t.tlp.sessionTrainId
          (summaryLines v t.dlc.doors (s.berth.enableSet.set d false) t.berth)) ∈ t.sent)


/-- The bytes of what the part sends. A message whose payload has at most 240 bytes goes out as one frame, which judged
by R176 is again its version, kind, sequence and payload; a longer one has no frame. The fields of BERTH_STATUS,
DOOR_SUMMARY, PLATFORM_STATE, a REPLY without record and STATION_STATUS (with a console refusal held, and no door state
as abort cause) stand at the places and in the codes that chapter 11 gives: numbers big-endian, an enumeration by its
place in the table that defines it, an absent item as 0, yes as 1. A taken read's REPLY carries its record behind these,
field by field as the owning rule lists them: the doors, marks and survey of STATUS_READ, the releases, overflow flag,
restart record and device time of RECORD_READ, the berth and reader records of BERTH_READ, the channel of CHANNEL_READ,
and for CONFIG_READ the bytes with which a CONFIG_WRITE carries every field of the entry; an item without an encoding
is a free value of any length (R12, R16, R32, R84, R101, R107, R123, R163, R168, R173, R176, R177, R178). It rests on
the model's choices of assumptions 11, 17, 20, 21 and 22. -/
def Obligations.SentFramesCarryTheirBytes : Prop :=
  (∀ (link : Link) (v : Version) (q : Byte) (m : Message),
    ((wireOf (.frame link v q m)).isSome = true ↔ (payloadOf m).length ≤ 240) ∧
    ∀ bytes, wireOf (.frame link v q m) = some bytes →
      judge bytes = some ⟨v, (match m with
        | .reply _ => 0xFF
        | .berthStatus _ _ => 0x80
        | .doorSummary _ _ => 0x81
        | .platformState _ => 0x82
        | .stationStatus _ _ _ => 0x83), q, payloadOf m⟩) ∧
  (∀ (id : Option Nat) (v : TrainValues) (p : List Byte), p = payloadOf (.berthStatus id v) → id.getD 0 < 65536 →
    v.tEff.getD 0 < 65536 → fits4 v.worstError → fits4 v.adviceError →
    p.length = 20 ∧ numberAt p 0 2 = id.getD 0 ∧ codedAt berthTable (some v.berthState) p 2 ∧
    codedAt [.a, .b] v.heading p 3 ∧ codedAt outcomeTable v.outcome p 4 ∧
    codedAt sourceTable (some v.positionSource) p 5 ∧ numberAt p 6 2 = v.tEff.getD 0 ∧
    optionalAt v.worstError p 8 ∧ optionalAt v.adviceError p 13 ∧ flagAt v.secure p 18 ∧ flagAt v.permit p 19) ∧
  (∀ (id : Option Nat) (l : List SentSummaryEntry) (p : List Byte), p = payloadOf (.doorSummary id l) →
    id.getD 0 < 65536 → l.length ≤ 40 → (∀ e ∈ l, e.trainDoor ≤ 40) →
    p.length = 3 + 3 * l.length ∧ numberAt p 0 2 = id.getD 0 ∧ numberAt p 2 1 = l.length ∧
    ∀ (i : Nat) (e : SentSummaryEntry), l[i]? = some e →
      numberAt p (3 + 3 * i) 1 = e.trainDoor ∧
      (match e.mark with
        | .v1 served => codedAt [true, false] (some served) p (4 + 3 * i)
        | .v2 m => codedAt [DoorMark.served, .unservedCutout, .unservedFault, .unpaired] (some m) p (4 + 3 * i)) ∧
      numberAt p (5 + 3 * i) 1 = (match e.paired with | some d => d.val + 1 | none => 0)) ∧
  (∀ (v : IlValues) (p : List Byte), p = payloadOf (.platformState v) → v.trainId.getD 0 < 65536 →
    p.length = 8 ∧ flagAt v.secure p 0 ∧ flagsAt (causeFlags v.causes) p 1 ∧ numberAt p 1 1 < 64 ∧
    flagAt v.permit p 2 ∧ codedAt berthTable (some v.berthState) p 3 ∧ numberAt p 4 2 = v.trainId.getD 0 ∧
    flagAt v.emergencyActive p 6 ∧ flagAt v.creepAlarm p 7) ∧
  (∀ (k : Byte) (result : ResultCode) (detail : Detail) (p : List Byte),
    p = payloadOf (.reply ⟨k, result, detail, none⟩) → (∀ i, detail = .field i → i < 65536) →
    p.length = 5 ∧ p[0]? = some k ∧
    codedAt [.refusedAuthority, .refusedMode, .refusedState, .refusedRange, .refusedKey, .refusedId,
      .refusedAlignment, .refusedUnsupported] (if result = .done then none else some result) p 1 ∧
    (numberAt p 2 1, numberAt p 3 2) =
      match detail with
      | .none => (0, 0)
      | .slot j => (1, j.val + 1)
      | .door d => (2, d.val + 1)
      | .field i => (3, i)
      | .health => (4, 0)
      | .doorway => (5, 0)) ∧
  (∀ (k : Byte) (result : ResultCode) (detail : Detail) (record : ReadRecord),
    payloadOf (.reply ⟨k, result, detail, some record⟩) =
      payloadOf (.reply ⟨k, result, detail, none⟩) ++ recordBytes record) ∧
  (∀ (doors : Tab 40 DoorStatus) (marks : Tab 5 Bool) (survey : Survey) (p : List Byte) (place : Nat → Nat),
    p = recordBytes (.status doors marks survey) →
    (∀ d : Door, (doors.get d).reopenCount < 256 ∧ (doors.get d).missCount < 256) →
    place = (fun n => ((doors.cells.take n).map doorStatusSize).sum) →
    p.length = place 40 + 2 ∧ (∀ d : Door, doorStatusAt (doors.get d) p (place d.val)) ∧
    flagsAt marks.get p (place 40) ∧ numberAt p (place 40) 1 < 32 ∧
    codedAt [.running, .complete] (some survey) p (place 40 + 1)) ∧
  (∀ (l : List ReleaseRecord) (overflow : Bool) (cause : RestartCause) (warmCount time : Nat) (p : List Byte)
      (place : Nat → Nat),
    p = recordBytes (.releases l overflow cause warmCount time) → l.length < 256 → (∀ r ∈ l, releaseFits r) →
    warmCount < 256 → time < 4294967296 → place = (fun n => 1 + ((l.take n).map releaseSize).sum) →
    p.length = place l.length + 7 ∧ numberAt p 0 1 = l.length ∧
    (∀ (i : Nat) (r : ReleaseRecord), l[i]? = some r → releaseRecordAt r p (place i) (place (i + 1))) ∧
    flagAt overflow p (place l.length) ∧
    codedAt [.powerOn, .stationRestart, .supplyDip] (some cause) p (place l.length + 1) ∧
    numberAt p (place l.length + 2) 1 = warmCount ∧ numberAt p (place l.length + 3) 4 = time) ∧
  (∀ (b : BerthRecord) (readerA readerB : Reader) (p : List Byte), p = recordBytes (.berth b readerA readerB) →
    berthFits b → (∀ r, r = readerA ∨ r = readerB → fits2 r.count ∧ fits2 r.capture ∧ r.illegalCount < 256) →
    p.length = 85 + 8 * b.pairing.length ∧ berthRecordAt b p (23 + 8 * b.pairing.length) ∧
    readerRecordAt readerA p (53 + 8 * b.pairing.length) ∧ readerRecordAt readerB p (69 + 8 * b.pairing.length)) ∧
  (∀ (c : Channel) (e : SensingEntry) (r : ChannelRecord) (p : List Byte), p = recordBytes (.channel c e r) →
    channelFits e r → channelRecordAt c e r p) ∧
  (∀ (d : Door) (e : DoorGeometry),
    recordBytes (.doorGeometry d e) = carriedBytes 1 ((doorGeometryFields e).map some)) ∧
  (∀ e : BerthConstants, recordBytes (.berthConstants e) = carriedBytes 2 ((berthConstantsFields e).map some)) ∧
  (∀ e : TimerSettings, recordBytes (.timers e) = carriedBytes 3 ((timerFields e).map some)) ∧
  (∀ (c : Channel) (e : SensingEntry),
    recordBytes (.sensing c e) = carriedBytes 4 ((sensingFields e).map some)) ∧
  (∀ (k : Slot) (e : Formation),
    recordBytes (.formation k e) =
      carriedBytes 5 ((formationFields e).map some) ++
        trainDoorBytes (some (e.trainDoors.map fun d => (d.offset, d.carIndex)))) ∧
  ∀ (flags enables : Tab 10 Bool) (v : StationValues) (r : ConsoleRefusal) (p : List Byte),
    p = payloadOf (.stationStatus flags enables v) → v.lastRefusal = some r → v.trainId.getD 0 < 65536 →
    v.sessionTrainId.getD 0 < 65536 → r.code ≠ .done → r.time < 4294967296 → v.refusalCount < 256 →
    (∀ t st, v.test = some t → t.abortCause ≠ some (.doorState st)) →
    p.length = 33 ∧ flagsAt flags.get p 0 ∧ numberAt p 1 1 < 4 ∧ flagsAt enables.get p 2 ∧ numberAt p 3 1 < 4 ∧
    flagAt v.secure p 4 ∧ flagsAt (causeFlags v.causes) p 5 ∧ numberAt p 5 1 < 64 ∧ flagAt v.permit p 6 ∧
    codedAt berthTable (some v.berthState) p 7 ∧ numberAt p 8 2 = v.trainId.getD 0 ∧
    codedAt outcomeTable v.outcome p 10 ∧
    codedAt [.automatic, .localMode, .maintenance, .fire] (some v.mode) p 11 ∧
    codedAt [.atLocal, .atRemote] (some v.localSwitch) p 12 ∧ codedAt [true, false] (some v.maintenanceKey) p 13 ∧
    codedAt [true, false] (some v.restoreKey) p 14 ∧
    (match v.test with
      | none => numberAt p 15 3 = 0
      | some t =>
        numberAt p 15 1 = t.door.val + 1 ∧ codedAt [.running, .passed, .aborted] (some t.state) p 16 ∧
        codedAt [.mode, .berth, .opened] t.abortCause p 17) ∧
    codedAt [.localOpen, .localClose, .forceClose] (some r.button) p 18 ∧
    codedAt [.refusedAuthority, .refusedMode, .refusedState, .refusedRange, .refusedKey, .refusedId,
      .refusedAlignment, .refusedUnsupported] (some r.code) p 19 ∧
    numberAt p 20 4 = r.time ∧ numberAt p 24 1 = v.refusalCount ∧ codedAt [.up, .lost] (some v.trainLink) p 25 ∧
    codedAt [.none, .opened] (some v.session) p 26 ∧ codedAt [.v1, .v2] v.sessionVersion p 27 ∧
    numberAt p 28 2 = v.sessionTrainId.getD 0 ∧ codedAt [.up, .lost] (some v.ilLink) p 30 ∧
    flagsAt v.marks.get p 31 ∧ numberAt p 31 1 < 32 ∧ codedAt [.running, .complete] (some v.survey) p 32
/-! ## Train link requests (chapters 3, 6, 9) -/

/-- ANNOUNCE at an EMPTY berth: the berth becomes ARRIVING with the train's fields, the formation found for it and its
heading, both readers take the heading as their sense, the stop settle time starts, the session opens, and a
BERTH_STATUS follows the reply (R13, R14, R18, R33, R35, R156). -/
def Obligations.AnnounceAtEmptyBerthOpensOccupancy : Prop :=
  ∀ (f : Frame) (a : Announce) (s : State), arrivedOn .train f s → formAnnounce f.version f.payload = some a →
    s.berth.state = .empty →
    ∃ t, exec (.announce f) s = .next t ∧ taken f 0x10 s t ∧ sessionOpenedBy a t ∧
      t.berth = { announceEntered a s with
        state := .arriving, edgeClear := false, linkLost := s.berth.linkLost } ∧
      settleStarted s t ∧ t.departureQuiet = s.departureQuiet ∧
      t.readerA = { s.readerA with sense := a.heading } ∧ t.readerB = { s.readerB with sense := a.heading } ∧
      t.mac.berthView = .arriving ∧ t.mac.test = abortTest .berth s.mac.test ∧
      (∃ q v, .frame .train a.version q (.berthStatus (some a.trainId) v) ∈ t.sent) ∧
      keepsBut [.links, .readers, .berth, .views, .test, .secure, .session] s t

/-- ANNOUNCE at an occupied berth, by berth state and train id held: refused in DEPARTING, refused for another train,
refused in RELEASED, DISPATCHING and CREEP where the same train names another slot or heading, and otherwise taken: the
session opens or resumes, and the train's fields are entered, the stop count of the newly measuring reader included
where the heading changes. In STOPPED the alignment is computed anew; in RELEASED, DISPATCHING and CREEP nothing is
(R18, R35, R39). It rests on the model's choices of assumptions 13 and 14. -/
def Obligations.AnnounceAtOccupiedBerth : Prop :=
  ∀ (f : Frame) (a : Announce) (s : State), arrivedOn .train f s → formAnnounce f.version f.payload = some a →
    (s.berth.state = .departing → ∃ t, exec (.announce f) s = .next t ∧ refusedAs f 0x10 .refusedState .none s t) ∧
    (∀ id, s.berth.state ≠ .empty → s.berth.state ≠ .departing → s.berth.trainId = some id → id ≠ a.trainId →
      ∃ t, exec (.announce f) s = .next t ∧ refusedAs f 0x10 .refusedId .none s t) ∧
    (s.berth.state = .released ∨ s.berth.state = .dispatching ∨ s.berth.state = .creep →
      s.berth.trainId = some a.trainId →
      ∃ t, exec (.announce f) s = .next t ∧
        if lookupFormation s.geo a = s.berth.formationSlot ∧ s.berth.heading = some a.heading then
          taken f 0x10 s t ∧ sessionOpenedBy a t ∧
          t.berth = { s.berth with
            protocolVersion := some a.version, carCount := some a.carCount, linkLost := false } ∧
          settleKept s t ∧ t.departureQuiet = s.departureQuiet ∧ keepsBut [.links, .berth, .session] s t
        else refusedAs f 0x10 .refusedId .none s t) ∧
    (s.berth.state ≠ .empty → s.berth.state ≠ .departing →
      s.berth.trainId = none ∨
        (s.berth.trainId = some a.trainId ∧ (s.berth.state = .arriving ∨ s.berth.state = .stopped)) →
      ∃ t, exec (.announce f) s = .next t ∧ taken f 0x10 s t ∧ sessionOpenedBy a t ∧
        t.berth =
          (if s.berth.state = .stopped then align s.geo a.heading (readerAt t a.heading) (announceEntered a s)
          else announceEntered a s) ∧
        t.berth.state = s.berth.state ∧ settleKept s t ∧
        t.departureQuiet =
          (if s.berth.state = .arriving ∧ s.readerA.beam = .clear ∧ s.readerB.beam = .clear ∧
              s.tlp.session = .none then none
          else s.departureQuiet) ∧
        t.readerA = { s.readerA with sense := a.heading } ∧ t.readerB = { s.readerB with sense := a.heading } ∧
        keepsBut [.links, .readers, .berth, .session] s t)

/-- STOP_REPORT and PRESENCE that are no movement: the train's motion is recorded, with a STOP_REPORT the front it
reports (present while it stands, by the stop mark of the heading). In ARRIVING the stop settle time starts afresh, but
that with the measuring reader in FAULT a STOP_REPORT that leaves a version 2 train standing, or a standing PRESENCE of
a version 1 train, stops the berth without a stop count, its alignment computed; in STOPPED a STOP_REPORT that changes
the motion or the front makes the alignment be computed anew. A STOP_REPORT at an EMPTY berth, or with an offset beyond
5,000 mm, is refused, and so is a PRESENCE at an EMPTY berth (R36, R38, R44, R158). It rests on the model's choice of
assumption 13. -/
def Obligations.TrainReportsRecordMotion : Prop :=
  (∀ (f : Frame) (r : StopReport) (s : State), inSession f s → f.version = .v2 →
    formStopReport f.version f.payload = some r →
    (s.berth.state = .empty → ∃ t, exec (.stopReport f) s = .next t ∧ refusedAs f 0x11 .refusedState .none s t) ∧
    (s.berth.state ≠ .empty → r.offset < -5000 ∨ 5000 < r.offset →
      ∃ t, exec (.stopReport f) s = .next t ∧ refusedAs f 0x11 .refusedRange .none s t) ∧
    (s.berth.state ≠ .empty → -5000 ≤ r.offset → r.offset ≤ 5000 →
      s.berth.state = .arriving ∨ r.moving = false ∨
        (s.berth.stopCount.isSome = true ∧
          ∀ h, s.berth.heading = some h → (readerAt s h).faultState = .normal) →
      ∃ t, exec (.stopReport f) s = .next t ∧ taken f 0x11 s t ∧ t.departureQuiet = s.departureQuiet ∧
        ∀ b : BerthRecord,
          b = { s.berth with
            trainMotion := if r.moving then some .moving else if r.stopped then some .standing else none
            trainReportedFrontX :=
              if r.stopped && !r.moving then
                match s.berth.heading with
                | some .a => some ((s.geo.berth.stopMarkAX : Int) - r.offset)
                | some .b => some ((s.geo.berth.stopMarkBX : Int) + r.offset)
                | none => s.berth.trainReportedFrontX
              else none } →
          reportTaken .v2 b s t ∧
          (s.berth.state = .stopped →
            (∀ h, s.berth.heading = some h →
              (b.trainMotion ≠ s.berth.trainMotion ∨ b.trainReportedFrontX ≠ s.berth.trainReportedFrontX) →
              t.berth = align s.geo h (readerAt s h) b) ∧
            (s.berth.heading = none ∨
              (b.trainMotion = s.berth.trainMotion ∧ b.trainReportedFrontX = s.berth.trainReportedFrontX) →
              t.berth = b) ∧
            settleKept s t ∧ keepsBut [.links, .berth] s t))) ∧
  ∀ (f : Frame) (p : Presence) (s : State), inSession f s → formPresence f.version f.payload = some p →
    (s.berth.state = .empty → ∃ t, exec (.presence f) s = .next t ∧ refusedAs f 0x12 .refusedState .none s t) ∧
    (s.berth.state ≠ .empty →
      s.berth.state = .arriving ∨ p.moving = false ∨
        (s.berth.stopCount.isSome = true ∧
          ∀ h, s.berth.heading = some h → (readerAt s h).faultState = .normal) →
      ∃ t, exec (.presence f) s = .next t ∧ taken f 0x12 s t ∧ t.departureQuiet = s.departureQuiet ∧
        ∀ b : BerthRecord,
          b = { s.berth with
            trainMotion := if p.moving then some .moving else if p.stopped then some .standing else none } →
          reportTaken .v1 b s t ∧
          (s.berth.state = .stopped → t.berth = b ∧ settleKept s t ∧ keepsBut [.links, .berth] s t))

/-- R55, for every movement of R45: a report that sets moving while the stop count is absent or the measuring reader is
in FAULT, a beam notice from the measuring end, and a step of the measuring reader beyond the creep threshold. What
CREEP entry does is said with it: the enable set is emptied, the CREEP flag set, and no other field of the berth record
but the motion that a report states, and no door record, changes (R36, R56). -/
def Obligations.MovementInReleasedGivesCreep : Prop :=
  ∀ s : State, s.berth.state = .released →
    (∀ (f : Frame) (r : StopReport), inSession f s → f.version = .v2 →
      formStopReport f.version f.payload = some r → -5000 ≤ r.offset → r.offset ≤ 5000 → r.moving = true →
      (s.berth.stopCount = none ∨ ∃ h, s.berth.heading = some h ∧ (readerAt s h).faultState = .fault) →
      ∃ t, exec (.stopReport f) s = .next t ∧ taken f 0x11 s t ∧ motionAfter (.stopReport f) s t ∧ creepEntered s t) ∧
    (∀ (f : Frame) (p : Presence), inSession f s → formPresence f.version f.payload = some p → p.moving = true →
      (s.berth.stopCount = none ∨ ∃ h, s.berth.heading = some h ∧ (readerAt s h).faultState = .fault) →
      ∃ t, exec (.presence f) s = .next t ∧ taken f 0x12 s t ∧ motionAfter (.presence f) s t ∧ creepEntered s t) ∧
    (∀ e : End, s.berth.heading = some e → (readerAt s e).beam = .clear →
      ∃ t, exec (.beamBreak e) s = .next t ∧ motionAfter (.beamBreak e) s t ∧ creepEntered s t) ∧
    (∀ e : End, s.berth.heading = some e → (readerAt s e).beam = .broken →
      ∃ t, exec (.beamClear e) s = .next t ∧ motionAfter (.beamClear e) s t ∧ creepEntered s t) ∧
    (∀ (e dir : End) (c : Int), s.berth.heading = some e → (readerAt s e).faultState = .normal →
      s.berth.stopCount = some c → stepRefused dir (readerAt s e) = false →
      s.geo.berth.creepThreshold <
        ((readerAt s e).count + (if dir = (readerAt s e).sense then 1 else -1) - c).natAbs →
      ∃ t, exec (.lineTransition e
          (match dir with
            | .b => (readerAt s e).lineState + 1
            | .a => (readerAt s e).lineState - 1)) s = .next t ∧
        t.berth.trainMotion = s.berth.trainMotion ∧ t.berth.trainReportedFrontX = s.berth.trainReportedFrontX ∧
        creepEntered s t)

/-- Movement in the other berth states: in STOPPED the train is repositioned, back to ARRIVING with its alignment
cleared; in DISPATCHING it departs with secure and gives CREEP without; in CREEP quiet is lost and the stop settle time
starts afresh; in DEPARTING the departure quiet time does. A counted step, beyond the threshold or not, restarts the
stop settle time in ARRIVING (of the measuring reader, or of any without a heading) and in CREEP, and the departure
quiet time in DEPARTING; a step of another reader, or within the threshold, moves nothing. A step of the measuring
reader taken as the stop settle time expires leaves the settle check owed (R19, R21, R37, R45, R46, R54, R56, R58). It
rests on the model's choices of assumptions 14 and 29. -/
def Obligations.MovementAndStepsByBerthState : Prop :=
  (∀ (c : Instr) (s : State), movementTaken c s → ∃ t, exec c s = .next t ∧
    (s.berth.state = .stopped →
      motionAfter c s t ∧
      t.berth = { s.berth with
        state := .arriving, measuredFrontX := none, outcome := none, tEff := none, worstError := none,
        adviceError := none, stopCount := none, pairing := [], partialAuthorised := false, positionSource := .none,
        edgeClear := false, trainMotion := t.berth.trainMotion,
        trainReportedFrontX := t.berth.trainReportedFrontX } ∧
      settleStarted s t ∧
      t.departureQuiet =
        (if t.readerA.beam = .clear ∧ t.readerB.beam = .clear ∧ s.tlp.session = .none then
          some Config.departureQuiet
        else s.departureQuiet) ∧
      t.mac.berthView = .arriving ∧ keepsBut [.links, .readers, .berth, .views, .test, .secure] s t) ∧
    (s.berth.state = .dispatching → s.scl.secure = true →
      motionAfter c s t ∧
      t.berth = { s.berth with
        state := .departing, trainMotion := t.berth.trainMotion,
        trainReportedFrontX := t.berth.trainReportedFrontX } ∧
      settleKept s t ∧
      t.departureQuiet = (if s.tlp.session = .none then some Config.departureQuiet else s.departureQuiet) ∧
      t.mac.berthView = .departing ∧ keepsBut [.links, .readers, .berth, .views, .test, .secure] s t) ∧
    (s.berth.state = .dispatching → s.scl.secure = false → motionAfter c s t ∧ creepEntered s t) ∧
    (s.berth.state = .creep →
      motionAfter c s t ∧
      t.berth = { s.berth with
        quiet := false, trainMotion := t.berth.trainMotion,
        trainReportedFrontX := t.berth.trainReportedFrontX } ∧
      settleRestarted c s t ∧ t.departureQuiet = s.departureQuiet ∧
      keepsBut [.links, .readers, .berth] s t) ∧
    (s.berth.state = .departing →
      motionAfter c s t ∧
      t.berth = { s.berth with
        trainMotion := t.berth.trainMotion, trainReportedFrontX := t.berth.trainReportedFrontX } ∧
      settleKept s t ∧
      t.departureQuiet = (if s.tlp.session = .none then some Config.departureQuiet else s.departureQuiet) ∧
      keepsBut [.links, .readers, .berth] s t)) ∧
  ∀ (e dir : End) (lines : LineState) (s : State), countedStep e dir lines s →
    ∃ t, exec (.lineTransition e lines) s = .next t ∧
      (s.berth.state = .arriving → s.berth.heading = some e ∨ s.berth.heading = none →
        t.berth = s.berth ∧ settleRestarted (.lineTransition e lines) s t ∧
        t.departureQuiet =
          (if s.readerA.beam = .clear ∧ s.readerB.beam = .clear ∧ s.tlp.session = .none then
            some Config.departureQuiet
          else s.departureQuiet) ∧
        keepsBut [.readers, .berth] s t) ∧
      (s.berth.state = .creep → s.berth.heading = some e →
        t.berth = { s.berth with quiet := false } ∧ settleRestarted (.lineTransition e lines) s t ∧
        t.departureQuiet = s.departureQuiet ∧ keepsBut [.readers, .berth] s t) ∧
      (s.berth.state = .departing → s.berth.heading = some e →
        t.berth = s.berth ∧ settleKept s t ∧
        t.departureQuiet = (if s.tlp.session = .none then some Config.departureQuiet else s.departureQuiet) ∧
        keepsBut [.readers, .berth] s t) ∧
      (s.berth.state = .empty ∨
          (s.berth.heading ≠ some e ∧ (s.berth.state = .arriving → s.berth.heading ≠ none)) ∨
          ((s.berth.state = .stopped ∨ s.berth.state = .released ∨ s.berth.state = .dispatching) ∧
            ∀ n, s.berth.stopCount = some n →
              ((readerAt s e).count + (if dir = (readerAt s e).sense then 1 else -1) - n).natAbs ≤
                s.geo.berth.creepThreshold) →
        keepsBut [.readers] s t)

/-- The alignment computation, as every stop and recomputation uses it: the position source; the front in force and the
effective tolerance, the measured front with its rounding and trim; the outcome UNKNOWN without a formation and
UNVERIFIED without a position; the stop window, GROSS outside it; the cross-check of a measured front with a reported
one; then for each train door the nearest fitted platform door, the lower of two equally near, with its error and
whether it is paired, and from these the outcome, the worst and the advice error. Nothing else of the berth record
changes but partial authorised, which is cleared (R5, R39 to R44). -/
def Obligations.AlignmentComputesItsResults : Prop :=
  ∀ (g : Geo) (h : End) (r : Reader) (b t : BerthRecord), align g h r b = t →
    t = { b with
      positionSource := t.positionSource, measuredFrontX := t.measuredFrontX, outcome := t.outcome, tEff := t.tEff,
      pairing := t.pairing, worstError := t.worstError, adviceError := t.adviceError, partialAuthorised := false } ∧
    t.positionSource =
      (if readerPlaces r then .reader else if b.trainReportedFrontX.isSome = true then .trainReport else .none) ∧
    (b.formationSlot = none → unpairedOutcome .unknown t ∧ t.tEff = none ∧ t.measuredFrontX = none) ∧
    ∀ k : Slot, b.formationSlot = some k →
      (¬readerPlaces r → b.trainReportedFrontX = none →
        unpairedOutcome .unverified t ∧ t.tEff = none ∧ t.measuredFrontX = none) ∧
      ∀ (x : Int) (tol : Nat), frontInForce g h r (g.formations.get k) b x tol →
        t.tEff = some tol ∧ t.measuredFrontX = (if readerPlaces r then some x else none) ∧
        (¬withinWindow g h x → unpairedOutcome .gross t) ∧
        (withinWindow g h x → frontsApart g r b x → unpairedOutcome .unverified t) ∧
        (withinWindow g h x → ¬frontsApart g r b x →
          t.pairing.length = (g.formations.get k).trainDoors.length ∧
          (∀ (i : Nat) (td : TrainDoor), (g.formations.get k).trainDoors[i]? = some td →
            ∃ e, t.pairing[i]? = some e ∧ e.trainDoor = i + 1 ∧ entryPairs g h x tol td.offset e) ∧
          ((g.formations.get k).trainDoors ≠ [] → pairingResults t))

/-- A release request that passes every check of R49: the berth becomes RELEASED, the enable set holds exactly the
paired, fitted doors that are not cut out and are CLOSED_LOCKED or OPEN, each joins the gap watch set, close requested
becomes no, and a door summary is held and sent after the reply, one line for each train door with its mark by the
session's version (R50, R163). A release request that fails a check of R49 is refused with the code of the first that
fails, an aligned and a partially authorised MISALIGNED stop alike. It rests on the model's choice of assumption 13. -/
def Obligations.ReleaseRequestGrantedOrRefusedInOrder : Prop :=
  (∀ (f : Frame) (s : State) (id : Nat), inSession f s → f.payload = [] → s.mac.mode = .automatic →
    s.berth.state = .stopped ∨ s.berth.state = .dispatching → stopPermits s →
    s.berth.authorisation = some id → s.berth.trainId = some id →
    ∃ t, exec (.releaseReq f) s = .next t ∧ taken f 0x13 s t ∧
      t.berth = { s.berth with
        state := .released, enableSet := t.berth.enableSet, gapWatch := t.berth.gapWatch, closeRequested := false } ∧
      (∀ d : Door, t.berth.enableSet.get d = true ↔
        d ∈ pairedDoors s.berth ∧ fitted s d = true ∧ (doorAt s d).cutOut = false ∧
        ((doorAt s d).state = .closedLocked ∨ (doorAt s d).state = .opened)) ∧
      (∀ d : Door, t.berth.gapWatch.get d = (s.berth.gapWatch.get d || t.berth.enableSet.get d)) ∧
      settleKept s t ∧ t.departureQuiet = s.departureQuiet ∧
      t.tlp.heldSummary = some (summaryOf s.dlc.doors t.berth) ∧
      (∃ q, .frame .train f.version q (.doorSummary s.tlp.sessionTrainId
        (summaryLines f.version s.dlc.doors t.berth.enableSet s.berth)) ∈ t.sent) ∧
      t.mac.berthView = .released ∧
      keepsBut [.links, .berth, .views, .test, .secure, .summary] s t) ∧
  ∀ (f : Frame) (s : State), inSession f s → f.payload = [] → s.mac.mode = .automatic →
    ∃ t, exec (.releaseReq f) s = .next t ∧
      (s.berth.state ≠ .stopped → s.berth.state ≠ .dispatching → refusedAs f 0x13 .refusedState .none s t) ∧
      (s.berth.state = .stopped ∨ s.berth.state = .dispatching → ¬stopPermits s →
        refusedAs f 0x13 .refusedAlignment .none s t) ∧
      (s.berth.state = .stopped ∨ s.berth.state = .dispatching → stopPermits s →
        s.berth.authorisation = none ∨ s.berth.authorisation ≠ s.berth.trainId →
        refusedAs f 0x13 .refusedId .none s t)

/-- An open request in RELEASED hands an open command to every door it names that stands CLOSED_LOCKED, CLOSE_WAIT,
CLOSING or REOPENING, makes close requested no, commands no other door, and sets the marks of the groups whose doors
have changed and no others; it is refused in another state, without a matching authorisation, and for a car beyond the
formation's (R52, R68, R84). It rests on the model's choice of assumption 13. -/
def Obligations.OpenRequestCommandsEnabledDoors : Prop :=
  ∀ (f : Frame) (cars : List Nat) (s : State), inSession f s → formOpenReq f.version f.payload = some cars →
    s.mac.mode = .automatic →
    ∃ t, exec (.openReq f) s = .next t ∧
      if s.berth.state ≠ .released then refusedAs f 0x14 .refusedState .none s t
      else if s.berth.authorisation = none ∨ s.berth.authorisation ≠ s.berth.trainId then
        refusedAs f 0x14 .refusedId .none s t
      else if ∃ c ∈ cars, c < 1 ∨ formationCars s < c then refusedAs f 0x14 .refusedRange .none s t
      else
        taken f 0x14 s t ∧
        (∀ d : Door,
          if s.berth.enableSet.get d = true ∧
              (cars = [] ∨ ∃ c ∈ cars, d ∈ pairedDoorsOfCar (berthFormation s) s.berth c) then
            openRequested s t d
          else doorAt t d = doorAt s d) ∧
        t.berth = { s.berth with closeRequested := false } ∧ settleKept s t ∧
        t.departureQuiet = s.departureQuiet ∧ marksFollow s t ∧
        keepsBut [.links, .berth, .doors, .marks, .views, .test, .secure] s t

/-- CLOSE_REQ in RELEASED: every enable-set door that is OPEN goes to CLOSE_WAIT with its warning and a close pending,
slow close and every other field that the entry does not name kept, and one that is OPENING has a close pending, no
other door changes, the marks of the changed doors' groups are set and no others, and the berth stays RELEASED with
close requested, or becomes DISPATCHING with the enable set emptied where every enable-set door is closed; in CREEP
every open door is closed; while a PER or FIRE record is ACTIVE, and in every other state, it is refused (R53, R54,
R69, R70, R71, R84). It rests on the model's choice of assumption 13. -/
def Obligations.CloseRequestClosesEnabledDoors : Prop :=
  ∀ (f : Frame) (s : State), inSession f s → f.payload = [] → s.mac.mode = .automatic →
    s.dlc.releaseInForce = perFireActive s.rlm.list →
    ∃ t, exec (.closeReq f) s = .next t ∧
      if perFireActive s.rlm.list = true ∨ (s.berth.state ≠ .released ∧ s.berth.state ≠ .creep) then
        refusedAs f 0x15 .refusedState .none s t
      else
        taken f 0x15 s t ∧
        (∀ d : Door,
          if fitted s d = true ∧ (s.berth.state = .creep ∨ s.berth.enableSet.get d = true) then
            ((doorAt s d).state = .opened → closeWaitEntered (doorAt s d).slowClose true s t d) ∧
            ((doorAt s d).state = .opening → doorAt t d = { doorAt s d with closePending := true }) ∧
            ((doorAt s d).state ≠ .opened → (doorAt s d).state ≠ .opening → doorAt t d = doorAt s d)
          else doorAt t d = doorAt s d) ∧
        t.berth =
          (if s.berth.state = .released ∧ enableSetClosed s = true then
            { s.berth with state := .dispatching, enableSet := DoorSet.empty, closeRequested := false }
          else { s.berth with closeRequested := true }) ∧
        settleKept s t ∧ t.departureQuiet = s.departureQuiet ∧ marksFollow s t ∧
        keepsBut [.links, .berth, .doors, .marks, .views, .test, .secure] s t

/-- TRAIN_EMERGENCY at a standing, paired train: its record is ACTIVE or the overflow flag is set; where it is ACTIVE,
every paired door of the named car (car 0: of every car) that is fitted, not cut-out and not ISOLATED or FAULT is
handed an open command, which it takes by its state as the rows of R68 say, and joins the gap watch set; one that goes
OPEN from its reopen hold while a close is requested, in the enable set of a RELEASED berth with no PER or FIRE release
in force, is handed the close again. A named door that is ISOLATED or in FAULT, not fitted or cut-out, and every door
that is not named, stays as it is and joins no set; a named door in EMERGENCY or INIT, or OPEN, stays as it is. The
marks of the changed doors' groups are set and no others. It is refused in other berth states, with nothing paired, and
for a car beyond the formation's (R53, R68, R69, R84, R109, R113). It rests on the model's choices of assumptions 13
and 19. -/
def Obligations.TrainEmergencyOpensNamedDoors : Prop :=
  ∀ (f : Frame) (car : Nat) (s : State), inSession f s → formTrainEmergency f.version f.payload = some car →
    ∃ t, exec (.trainEmergency f) s = .next t ∧
      if (s.berth.state ≠ .stopped ∧ s.berth.state ≠ .released ∧ s.berth.state ≠ .dispatching) ∨
          (∀ e ∈ s.berth.pairing, e.paired = false) then refusedAs f 0x16 .refusedState .none s t
      else if formationCars s < car then refusedAs f 0x16 .refusedRange .none s t
      else
        taken f 0x16 s t ∧
        t.rlm = { s.rlm with
          list := triggered s.rlm.deviceTime s.berth.trainId (.train car) s.rlm.list
          overflow := s.rlm.overflow || overflows s.rlm.list (.train car) } ∧
        (activeOf t.rlm.list (.train car) = true ∨ t.rlm.overflow = true) ∧
        t.dlc.releaseInForce = perFireActive t.rlm.list ∧
        t.slp.flags = triggerFlags true (overflows s.rlm.list (.train car)) s.slp.flags ∧
        (∀ d : Door,
          if activeOf t.rlm.list (.train car) = true ∧ d ∈ emergencyDoorsNamed car s ∧ fitted s d = true ∧
              (doorAt s d).cutOut = false then
            openTaken (s.berth.closeRequested = true ∧ perFireActive s.rlm.list = false ∧
              s.berth.state = .released ∧ s.berth.enableSet.get d = true) False s t d ∧
            t.berth.gapWatch.get d =
              (if (doorAt s d).state = .isolated ∨ (doorAt s d).state = .fault ∨ (doorAt s d).state = .absent then
                s.berth.gapWatch.get d
              else true)
          else doorAt t d = doorAt s d ∧ t.berth.gapWatch.get d = s.berth.gapWatch.get d) ∧
        t.berth = { s.berth with gapWatch := t.berth.gapWatch } ∧ settleKept s t ∧
        t.departureQuiet = s.departureQuiet ∧ marksFollow s t ∧
        keepsBut [.links, .berth, .doors, .marks, .views, .releases, .test, .secure, .flags] s t

/-- TRAIN_EMERGENCY_END clears every ACTIVE TRAIN record and commands no door (R115); DEPART_NOTICE ends the session,
keeps its version, train id and held summary, and starts the departure quiet time of a DEPARTING berth, or of an
ARRIVING one whose beams are clear (R58, R157). It rests on the model's choice of assumption 14. -/
def Obligations.EmergencyEndAndDepartNotice : Prop :=
  ∀ (f : Frame) (s : State), inSession f s → f.payload = [] →
    (∃ t, exec (.trainEmergencyEnd f) s = .next t ∧ taken f 0x17 s t ∧
      t.rlm = { s.rlm with list := s.rlm.list.map fun r =>
        match r.source with
        | .train _ => { r with state := .cleared }
        | _ => r } ∧
      t.dlc.releaseInForce = perFireActive s.rlm.list ∧ keepsBut [.links, .releases] s t) ∧
    ∃ t, exec (.departNotice f) s = .next t ∧ taken f 0x18 s t ∧
      t.tlp.session = .none ∧ t.tlp.sessionVersion = s.tlp.sessionVersion ∧
      t.tlp.sessionTrainId = s.tlp.sessionTrainId ∧ t.tlp.statusTimer = none ∧
      t.berth = s.berth ∧ settleKept s t ∧
      t.departureQuiet =
        (if s.berth.state = .departing ∨
            (s.berth.state = .arriving ∧ s.readerA.beam = .clear ∧ s.readerB.beam = .clear) then
          some Config.departureQuiet
        else s.departureQuiet) ∧
      keepsBut [.links, .berth, .session] s t

/-! ## Interlocking and station requests (chapters 2 to 8 and 10) -/

/-- BERTH_AUTHORISE enters its train id, and is refused for train id 0; BERTH_REVOKE makes the authorisation absent;
neither changes anything else. STATUS_POLL changes nothing and is followed by a PLATFORM_STATE with the values held,
on a port whose report timer then runs anew; a poll that also returns a LOST link makes one report, not two (R47, R166,
R167, R168). It rests on the model's choices of assumptions 6 and 13. -/
def Obligations.InterlockingRequests : Prop :=
  ∀ (f : Frame) (s : State), arrivedOn .interlocking f s →
    (∀ t1 t2 : Byte, f.payload = [t1, t2] →
      ∃ t, exec (.berthAuthorise f) s = .next t ∧
        if t1.toNat * 256 + t2.toNat = 0 then refusedAs f 0x20 .refusedRange .none s t
        else
          taken f 0x20 s t ∧ t.berth = { s.berth with authorisation := some (t1.toNat * 256 + t2.toNat) } ∧
          settleKept s t ∧ t.departureQuiet = s.departureQuiet ∧ keepsBut [.links, .berth] s t) ∧
    (f.payload = [] →
      (∃ t, exec (.berthRevoke f) s = .next t ∧ taken f 0x21 s t ∧
        t.berth = { s.berth with authorisation := none } ∧
        settleKept s t ∧ t.departureQuiet = s.departureQuiet ∧ keepsBut [.links, .berth] s t) ∧
      ∃ t, exec (.statusPoll f) s = .next t ∧ taken f 0x22 s t ∧
        t.sent = [.frame .interlocking f.version f.seq (.reply ⟨0x22, .done, .none, none⟩),
          .frame .interlocking .v2 s.ilp.reportSeq (.platformState s.ilp.values)] ∧
        t.ilp.values = s.ilp.values ∧ t.ilp.reportSeq = s.ilp.reportSeq + 1 ∧
        t.ilp.reportTimer = some Config.platformStatePeriod ∧ keepsBut [.links] s t)

/-- MODE_SET: the mode becomes AUTOMATIC, LOCAL or MAINTENANCE as asked, and a RUNNING door test ends ABORTED with
cause MODE where MAINTENANCE is left; it is refused for FIRE or another code, in FIRE, and for MAINTENANCE from
another mode without the MAINTENANCE key or with the berth not EMPTY (R140, R150). It rests on the model's choice of
assumption 13. -/
def Obligations.ModeSetChangesMode : Prop :=
  ∀ (f : Frame) (b : Byte) (s : State), arrivedOn .station f s → f.payload = [b] →
    ∃ t, exec (.modeSet f) s = .next t ∧
      if b ≠ 1 ∧ b ≠ 2 ∧ b ≠ 3 then refusedAs f 0x30 .refusedRange .none s t
      else if s.mac.mode = .fire then refusedAs f 0x30 .refusedMode .none s t
      else if b = 3 ∧ s.mac.mode ≠ .maintenance ∧ s.mac.maintenanceKey = false then
        refusedAs f 0x30 .refusedKey .none s t
      else if b = 3 ∧ s.mac.mode ≠ .maintenance ∧ s.mac.berthView ≠ .empty then
        refusedAs f 0x30 .refusedState .none s t
      else
        taken f 0x30 s t ∧
        t.mac = { s.mac with
          mode := if b = 1 then .automatic else if b = 2 then .localMode else .maintenance
          test := if s.mac.mode = .maintenance ∧ b ≠ 3 then abortTest .mode s.mac.test else s.mac.test } ∧
        keepsBut [.links, .modes, .test, .secure] s t

/-- DOOR_CUTOUT, DOOR_CUTIN and GAP_BYPASS write one field of the named door's record and leave every other door, and
every other field, as it was; the group's mark is set where the field changes. They are refused for a number outside 1
to 40, for a position not fitted (DOOR_CUTIN excepted), DOOR_CUTOUT for a door of the enable set, and GAP_BYPASS while
the door's GAP channel is ACTIVE (R78, R84, R131). DOOR_REINIT puts a fitted door into INIT under status polls with
its last report, counts, causes, timer and cadence gone, keeps its cut-out and gap bypass, keeps its place in the
enable set, sets its group's mark, and leaves every other door and the survey as they were; a position not fitted is
refused (R77, R84, R86). After every command but a start, a door whose state, cut-out or gap bypass has changed has its
group's mark set (R84). It rests on the model's choices of assumptions 13 and 19. -/
def Obligations.DoorCutoutCutinGapBypassAndReinit : Prop :=
  (∀ (f : Frame) (b : Byte) (s : State), arrivedOn .station f s → f.payload = [b] →
    (doorOfNumber b.toNat = none →
      (∃ t, exec (.doorCutout f) s = .next t ∧ refusedAs f 0x31 .refusedRange .none s t) ∧
      (∃ t, exec (.doorCutin f) s = .next t ∧ refusedAs f 0x32 .refusedRange .none s t) ∧
      (∃ t, exec (.doorReinit f) s = .next t ∧ refusedAs f 0x33 .refusedRange .none s t) ∧
      ∃ t, exec (.gapBypass f) s = .next t ∧ refusedAs f 0x34 .refusedRange .none s t) ∧
    ∀ d : Door, doorOfNumber b.toNat = some d →
      (∃ t, exec (.doorCutout f) s = .next t ∧
        if fitted s d = false ∨ s.berth.enableSet.get d = true then refusedAs f 0x31 .refusedState .none s t
        else
          taken f 0x31 s t ∧ doorAt t d = { doorAt s d with cutOut := true } ∧
          (∀ e : Door, e ≠ d → doorAt t e = doorAt s e) ∧
          t.dlc.marks =
            (if (doorAt s d).cutOut = true then s.dlc.marks else s.dlc.marks.set (doorGroup d) true) ∧
          keepsBut [.links, .doors, .marks] s t) ∧
      (∃ t, exec (.doorCutin f) s = .next t ∧ taken f 0x32 s t ∧
        doorAt t d = { doorAt s d with cutOut := false } ∧ (∀ e : Door, e ≠ d → doorAt t e = doorAt s e) ∧
        t.dlc.marks =
          (if (doorAt s d).cutOut = false then s.dlc.marks else s.dlc.marks.set (doorGroup d) true) ∧
        keepsBut [.links, .doors, .marks] s t) ∧
      ∃ t, exec (.gapBypass f) s = .next t ∧
        if fitted s d = false ∨ (channelAt s (gapChannel d)).state = .active then
          refusedAs f 0x34 .refusedState .none s t
        else
          taken f 0x34 s t ∧ doorAt t d = { doorAt s d with gapBypass := true } ∧
          (∀ e : Door, e ≠ d → doorAt t e = doorAt s e) ∧
          t.dlc.marks =
            (if (doorAt s d).gapBypass = true then s.dlc.marks else s.dlc.marks.set (doorGroup d) true) ∧
          keepsBut [.links, .doors, .marks, .secure] s t) ∧
  (∀ (f : Frame) (b : Byte) (d : Door) (s : State), arrivedOn .station f s → f.payload = [b] →
    doorOfNumber b.toNat = some d →
    ∃ t, exec (.doorReinit f) s = .next t ∧
      if fitted s d = false then refusedAs f 0x33 .refusedState .none s t
      else
        taken f 0x33 s t ∧
        doorAt t d =
          { state := .init, cutOut := (doorAt s d).cutOut, gapBypass := (doorAt s d).gapBypass, reopenCount := 0,
            slowClose := false, closePending := false, blockedCause := none, faultCause := none, missCount := 0,
            lastReport := none, command := none, stateTimer := none, warningPhase := .none, warningTimer := none } ∧
        (∀ e : Door, e ≠ d → doorAt t e = doorAt s e) ∧
        t.dlc.marks = s.dlc.marks.set (doorGroup d) true ∧
        keepsBut [.links, .doors, .marks, .views, .test, .secure] s t) ∧
  ∀ (c : Instr) (s t : State), exec c s = .next t → isStart c = false → ∀ d : Door,
    (doorAt t d).state ≠ (doorAt s d).state ∨ (doorAt t d).cutOut ≠ (doorAt s d).cutOut ∨
      (doorAt t d).gapBypass ≠ (doorAt s d).gapBypass →
    t.dlc.marks.get (doorGroup d) = true

/-- FORCE_CLOSE, from the station for one door and from the console button in LOCAL for every door it may move: a
CLOSE_BLOCKED door goes to CLOSE_WAIT, slowly where an obstruction blocked it, close pending and every other field that
the entry does not name kept, unless its doorway holds it and the doorway channel is ACTIVE and occupied; every other
door stays, and the marks of the moved doors' groups are set and no others. The station's request is refused while a
PER or FIRE record is ACTIVE, for a door not CLOSE_BLOCKED, and with detail DOORWAY for an occupied doorway (R72, R84,
R148). It rests on the model's choice of assumption 13. -/
def Obligations.ForceCloseMovesBlockedDoors : Prop :=
  (∀ (f : Frame) (b : Byte) (s : State), arrivedOn .station f s → f.payload = [b] →
    (doorOfNumber b.toNat = none → ∃ t, exec (.forceClose f) s = .next t ∧ refusedAs f 0x35 .refusedRange .none s t) ∧
    ∀ d : Door, doorOfNumber b.toNat = some d →
      ∃ t, exec (.forceClose f) s = .next t ∧
        if perFireActive s.rlm.list = true ∨ (doorAt s d).state ≠ .closeBlocked then
          refusedAs f 0x35 .refusedState .none s t
        else if forceCloseAllowed (doorwayOf s d) (doorAt s d) = false then
          refusedAs f 0x35 .refusedState .doorway s t
        else
          taken f 0x35 s t ∧
          closeWaitEntered ((doorAt s d).slowClose || (doorAt s d).blockedCause == some .obstruction)
            (doorAt s d).closePending s t d ∧
          (∀ e : Door, e ≠ d → doorAt t e = doorAt s e) ∧ marksFollow s t ∧
          keepsBut [.links, .doors, .marks, .views, .secure] s t) ∧
  ∀ s : State, s.mac.mode = .localMode → s.mac.forceClosePressed = false →
    ∃ t, exec .forceCloseButton s = .next t ∧ t.mac = { s.mac with forceClosePressed := true } ∧
      (∀ d : Door,
        if perFireActive s.rlm.list = false ∧ (doorAt s d).state = .closeBlocked ∧
            forceCloseAllowed (doorwayOf s d) (doorAt s d) = true then
          closeWaitEntered ((doorAt s d).slowClose || (doorAt s d).blockedCause == some .obstruction)
            (doorAt s d).closePending s t d
        else doorAt t d = doorAt s d) ∧
      marksFollow s t ∧
      keepsBut [.doors, .marks, .views, .modes, .secure] s t

/-- PARTIAL_RELEASE_AUTHORISE sets partial authorised at a STOPPED, MISALIGNED berth whose formation permits it, and
is refused otherwise with the code of the first failing check (R48). BERTH_CLEAR at a CREEP berth that is quiet makes
it ARRIVING with the alignment cleared and the stop settle time running, keeps the train, the heading, the
authorisation and the gap watch set, and is refused otherwise (R57). It rests on the model's choices of assumptions 13
and 14. -/
def Obligations.PartialReleaseAndBerthClear : Prop :=
  ∀ (f : Frame) (s : State), arrivedOn .station f s → f.payload = [] →
    (∃ t, exec (.partialReleaseAuthorise f) s = .next t ∧
      if s.berth.state ≠ .stopped ∨ s.berth.outcome ≠ some .misaligned then
        refusedAs f 0x36 .refusedState .none s t
      else if ∃ fm, berthFormation s = some fm ∧ fm.partialPermitted = true then
        taken f 0x36 s t ∧ t.berth = { s.berth with partialAuthorised := true } ∧
        settleKept s t ∧ t.departureQuiet = s.departureQuiet ∧ keepsBut [.links, .berth] s t
      else refusedAs f 0x36 .refusedAlignment .none s t) ∧
    ∃ t, exec (.berthClear f) s = .next t ∧
      if s.berth.state = .creep ∧ s.berth.quiet = true then
        taken f 0x37 s t ∧
        t.berth = { s.berth with
          state := .arriving, measuredFrontX := none, outcome := none, tEff := none, worstError := none,
          adviceError := none, stopCount := none, pairing := [], partialAuthorised := false,
          positionSource := .none, quiet := false, closeRequested := false, edgeClear := false } ∧
        settleStarted s t ∧
        t.departureQuiet =
          (if s.readerA.beam = .clear ∧ s.readerB.beam = .clear ∧ s.tlp.session = .none then
            some Config.departureQuiet
          else s.departureQuiet) ∧
        t.mac.berthView = .arriving ∧ keepsBut [.links, .berth, .views, .test, .secure] s t
      else refusedAs f 0x37 .refusedState .none s t

/-- RELEASE_RESTORE with the RESTORE key removes the one CLEARED record it names; RESTORE_ALL removes every CLEARED
record and, where none is left, the overflow flag; RETAINED_CLEAR in MAINTENANCE with both keys and nothing ACTIVE
empties the list and zeroes the restart count. After each, the lines and doors that still stand without an ACTIVE
record are triggers again, in the order FIRE, PER, doors, with their flags, and a line whose record is then ACTIVE
opens doors as its assertion does (R68, R109, R111, R116, R117, R118, R121). It rests on the model's
choices of assumptions 13, 16 and 28. -/
def Obligations.RestoresRemoveAndRearm : Prop :=
  ∀ (f : Frame) (s : State), arrivedOn .station f s →
    (∀ b : Byte, f.payload = [b] → b ≠ 0 →
      ∃ t, exec (.releaseRestore f) s = .next t ∧
        if s.mac.restoreKey = false then refusedAs f 0x38 .refusedKey .none s t
        else
          match s.rlm.list.find? fun r => r.number == b.toNat with
          | none => refusedAs f 0x38 .refusedRange .none s t
          | some r =>
            if r.state = .active then refusedAs f 0x38 .refusedState .none s t
            else
              taken f 0x38 s t ∧ rearmed s t (s.rlm.list.filter fun r => r.number != b.toNat) s.rlm.overflow ∧
              t.rlm.warmCount = s.rlm.warmCount) ∧
    (f.payload = [] →
      (∃ t, exec (.restoreAll f) s = .next t ∧
        if s.mac.restoreKey = false then refusedAs f 0x39 .refusedKey .none s t
        else
          taken f 0x39 s t ∧
          rearmed s t (s.rlm.list.filter fun r => r.state == .active)
            (s.rlm.overflow && s.rlm.list.any fun r => r.state == .active) ∧
          t.rlm.warmCount = s.rlm.warmCount) ∧
      (s.mac.mode = .maintenance →
        ∃ t, exec (.retainedClear f) s = .next t ∧
          if s.mac.restoreKey = false ∨ s.mac.maintenanceKey = false then refusedAs f 0x4A .refusedKey .none s t
          else if ∃ r ∈ s.rlm.list, r.state = .active then refusedAs f 0x4A .refusedState .none s t
          else taken f 0x4A s t ∧ rearmed s t [] false ∧ t.rlm.warmCount = 0))

/-- CHANNEL_RELEARN puts a channel that is not OFF into SETTLING with its baseline, sums, counters and occupied gone,
touches no other channel, and no door but a DOORWAY channel's own, which takes the notice that the channel has left
ACTIVE: one that waits for an occupied doorway goes to CLOSING under SLOW_CLOSE_LOCK, any other stays; a number outside
1 to 80 and a channel in OFF are refused (R70, R89, R97, R98, R102). READER_RESET of the named reader (1 is PRA, 2 is
PRB) at an EMPTY berth with its health line high: its record is zeroed and NORMAL, its line state, beam and health line
as they stand, its flag left set, the other reader untouched; it is refused at another berth state, and with detail
HEALTH for a low health line (R28). A relearn leaves the scan as it goes. It rests on the model's choices of assumptions
13 and 17. -/
def Obligations.ChannelRelearnAndReaderReset : Prop :=
  (∀ (f : Frame) (b : Byte) (s : State), arrivedOn .station f s → f.payload = [b] →
    (channelOfNumber b.toNat = none →
      ∃ t, exec (.channelRelearn f) s = .next t ∧ refusedAs f 0x3A .refusedRange .none s t) ∧
    ∀ c : Channel, channelOfNumber b.toNat = some c →
      ∃ t, exec (.channelRelearn f) s = .next t ∧
        if (channelAt s c).state = .off then refusedAs f 0x3A .refusedState .none s t
        else
          taken f 0x3A s t ∧
          channelAt t c =
            { state := .settling, baseline := 0, learnSum := 0, learnCount := 0, consecutive := 0, occupied := false,
              railCount := 0, lastSample := (channelAt s c).lastSample, tracking := (channelAt s c).tracking } ∧
          (∀ e : Channel, e ≠ c → channelAt t e = channelAt s e) ∧ t.ssc.lastConverted = s.ssc.lastConverted ∧
          t.ssc.inFlight = s.ssc.inFlight ∧ channelActsOnDoor c s t ∧ marksFollow s t ∧
          (∀ d : Door, d ≠ channelDoor c ∨ isGap c = true → doorAt t d = doorAt s d) ∧
          keepsBut [.links, .channels, .doors, .marks, .views, .secure] s t) ∧
  ∀ (f : Frame) (b : Byte) (e : End) (s : State), arrivedOn .station f s → f.payload = [b] →
    (b = 1 ∧ e = .a) ∨ (b = 2 ∧ e = .b) →
    ∃ t, exec (.readerReset f) s = .next t ∧
      if s.berth.state ≠ .empty then refusedAs f 0x3B .refusedState .none s t
      else if (readerAt s e).health = false then refusedAs f 0x3B .refusedState .health s t
      else
        taken f 0x3B s t ∧
        readerAt t e =
          { count := 0, capture := 0, captureValid := false, sense := e, lastStep := .none,
            lineState := (readerAt s e).lineState, edgeSeen := false, directionChange := false, saturated := false,
            illegalCount := 0, faultState := .normal, faultCause := none, beam := (readerAt s e).beam,
            health := (readerAt s e).health } ∧
        (∀ e' : End, e' ≠ e → readerAt t e' = readerAt s e') ∧ keepsBut [.links, .readers] s t

/-- ATTENTION_CLEAR clears exactly the flags its mask names, and ATTENTION_ENABLE makes the enables its mask; each is
refused for a mask beyond the ten flags (R172, R173). TIME_SET on the station link makes device time the value of its
four bytes, in every mode and berth state, and changes no other field, the time left to the next second of device time
among those kept; on another link it is refused REFUSED_AUTHORITY; device time is 0 after a cold start and kept by a
warm restart (R122). It rests on the model's choices of assumptions 5, 13, 17 and 18. -/
def Obligations.AttentionMasksAndDeviceTime : Prop :=
  (∀ (f : Frame) (b0 b1 : Byte) (s : State), arrivedOn .station f s → f.payload = [b0, b1] →
    (4 ≤ b1.toNat →
      (∃ t, exec (.attentionClear f) s = .next t ∧ refusedAs f 0x3C .refusedRange .none s t) ∧
      ∃ t, exec (.attentionEnable f) s = .next t ∧ refusedAs f 0x3D .refusedRange .none s t) ∧
    (b1.toNat < 4 →
      (∃ t, exec (.attentionClear f) s = .next t ∧ taken f 0x3C s t ∧
        (∀ i : Fin 10, t.slp.flags.get i = (s.slp.flags.get i && !(b1 ++ b0).getLsbD i.val)) ∧
        keepsBut [.links, .flags] s t) ∧
      ∃ t, exec (.attentionEnable f) s = .next t ∧ taken f 0x3D s t ∧
        (∀ i : Fin 10, t.slp.enables.get i = (b1 ++ b0).getLsbD i.val) ∧ keepsBut [.links, .enables] s t)) ∧
  (∀ (f : Frame) (b0 b1 b2 b3 : Byte) (s : State), arrivedOn .station f s → f.payload = [b0, b1, b2, b3] →
    ∃ t, exec (.timeSet f) s = .next t ∧ taken f 0x3E s t ∧
      t.rlm = { s.rlm with
        deviceTime := ((b0.toNat * 256 + b1.toNat) * 256 + b2.toNat) * 256 + b3.toNat } ∧
      t.dlc.releaseInForce = s.dlc.releaseInForce ∧ keepsBut [.links, .releases] s t) ∧
  (∀ (f : Frame) (s : State), f.link ≠ .station → s.restartDue = false →
    ∃ t, exec (.unassignedKindFrame f 0x3E) s = .next t ∧ refusedAs f 0x3E .refusedAuthority .none s t) ∧
  (∀ (l : Levels) (s : State), ∃ t, exec (.coldStart l) s = .next t ∧ t.rlm.deviceTime = 0) ∧
  (∀ (l : Levels) (s : State), ∃ t, exec (.warmRestart l) s = .next t ∧ t.rlm.deviceTime = s.rlm.deviceTime) ∧
  ∀ (l : Levels) (s : State), ∃ t, exec (.supplyDip l) s = .next t ∧ t.rlm.deviceTime = s.rlm.deviceTime

/-- The five reads reply DONE with the record they name and change nothing but what is said: STATUS_READ clears the
marks of its mask, BERTH_READ both readers' direction change. A channel number, table or entry out of range is refused
(R12, R22, R84, R101, R123, R171). It rests on the model's choices of assumptions 12 and 13. -/
def Obligations.ReadsReturnTheirRecords : Prop :=
  ∀ (f : Frame) (s : State), arrivedOn .station f s →
    (∀ b : Byte, f.payload = [b] → b.toNat < 32 →
      ∃ t, exec (.statusRead f) s = .next t ∧
        (∃ doors, answered f 0x3F .done .none (some (.status doors s.dlc.marks s.dlc.survey)) s t ∧
          ∀ d : Door, doors.get d =
            ⟨(doorAt s d).state, (doorAt s d).cutOut, (doorAt s d).gapBypass, (doorAt s d).reopenCount,
             (doorAt s d).slowClose, (doorAt s d).blockedCause, (doorAt s d).faultCause, (doorAt s d).missCount,
             (doorAt s d).lastReport⟩) ∧
        (∀ g : Fin 5, t.dlc.marks.get g = (s.dlc.marks.get g && !b.getLsbD g.val)) ∧
        keepsBut [.links, .marks] s t) ∧
    (f.payload = [] →
      (∃ t, exec (.recordRead f) s = .next t ∧
        answered f 0x40 .done .none
          (some (.releases s.rlm.list s.rlm.overflow s.rlm.lastCause s.rlm.warmCount s.rlm.deviceTime)) s t ∧
        keepsBut [.links] s t) ∧
      ∃ t, exec (.berthRead f) s = .next t ∧
        answered f 0x41 .done .none (some (.berth s.berth s.readerA s.readerB)) s t ∧
        t.readerA = { s.readerA with directionChange := false } ∧
        t.readerB = { s.readerB with directionChange := false } ∧ keepsBut [.links, .readers] s t) ∧
    (∀ b : Byte, f.payload = [b] →
      ∃ t, exec (.channelRead f) s = .next t ∧
        match channelOfNumber b.toNat with
        | none => refusedAs f 0x42 .refusedRange .none s t
        | some c =>
          answered f 0x42 .done .none (some (.channel c (s.geo.sensing.get c) (channelAt s c))) s t ∧
          keepsBut [.links] s t) ∧
    ∀ tb e : Byte, f.payload = [tb, e] →
      ∃ t, exec (.configRead f) s = .next t ∧ keepsBut [.links] s t ∧
        (entryExists tb.toNat e.toNat = false → refusedAs f 0x43 .refusedRange .none s t) ∧
        (∀ d, tb = 1 → doorOfNumber e.toNat = some d →
          answered f 0x43 .done .none (some (.doorGeometry d (s.store.doors.get d))) s t) ∧
        (tb = 2 → e = 1 → answered f 0x43 .done .none (some (.berthConstants s.store.berth)) s t) ∧
        (tb = 3 → e = 1 → answered f 0x43 .done .none (some (.timers s.store.timers)) s t) ∧
        (∀ c, tb = 4 → channelOfNumber e.toNat = some c →
          answered f 0x43 .done .none (some (.sensing c (s.store.sensing.get c))) s t) ∧
        ∀ k, tb = 5 → slotOfNumber e.toNat = some k →
          answered f 0x43 .done .none (some (.formation k (s.store.formations.get k))) s t

/-- What the lookups and the configuration checks compute. A version 2 ANNOUNCE finds a valid slot of its fleet code and
car count, a version 1 one the valid slot of its formation number. The door table is consistent when fitted centres
increase and the openings of neighbours do not overlap; the berth constants stand by their conditions; a valid formation
has its structure, and no other valid slot of its fleet code and car count where a write makes it valid or changes them;
and the spacing validation names the lowest valid formation whose doubled tolerance is not less than every distance of
neighbouring doors, of the platform and of its own list (R2, R4, R9, R10, R13, R14). It rests on the model's choice of
assumption 13. -/
def Obligations.LookupsAndConfigurationChecks : Prop :=
  (∀ (g : Geo) (a : Announce) (code : Nat), a.key = .fleet code →
    (∀ k : Slot, lookupFormation g a = some k →
      (g.formations.get k).valid = true ∧ (g.formations.get k).fleetCode = code ∧
      (g.formations.get k).carCount = a.carCount) ∧
    (lookupFormation g a = none →
      ∀ k : Slot, ¬((g.formations.get k).valid = true ∧ (g.formations.get k).fleetCode = code ∧
        (g.formations.get k).carCount = a.carCount))) ∧
  (∀ (g : Geo) (a : Announce) (n : Nat) (k : Slot), a.key = .number n →
    (lookupFormation g a = some k ↔ k.val + 1 = n ∧ (g.formations.get k).valid = true)) ∧
  (∀ table : Tab 40 DoorGeometry, doorTableConsistent table = true ↔
    (∀ j k : Door, (table.get j).fitted = true → (table.get k).fitted = true → j < k →
      (table.get j).centreX < (table.get k).centreX) ∧
    ∀ j k : Door, neighbouring table j k → openingsClear table j k) ∧
  (∀ b : BerthConstants, berthConstantsFailure b =
    if b.beamAX < 2500 ∨ b.beamBX ≤ b.beamAX then some 1 else if 197499 < b.beamBX then some 2 else none) ∧
  (∀ (g : Geo) (k : Slot) (f : Formation),
    (f.valid = false → formationFailure g k f = none) ∧
    (f.valid = true → ¬structured f → formationFailure g k f = some .none) ∧
    (f.valid = true → structured f → (g.formations.get k).valid = true →
      (g.formations.get k).fleetCode = f.fleetCode → (g.formations.get k).carCount = f.carCount →
      formationFailure g k f = none) ∧
    (f.valid = true → structured f →
      ((g.formations.get k).valid = false ∨ (g.formations.get k).fleetCode ≠ f.fleetCode ∨
        (g.formations.get k).carCount ≠ f.carCount) →
      (formationFailure g k f = none ↔ ∀ j : Slot, j ≠ k → ¬sameIdentity (g.formations.get j) f) ∧
      ∀ detail, formationFailure g k f = some detail →
        ∃ j : Slot, detail = .slot j ∧ j ≠ k ∧ sameIdentity (g.formations.get j) f)) ∧
  ∀ (doors : Tab 40 DoorGeometry) (formations : Tab 24 Formation),
    (spacingFailure doors formations = none ↔
      ∀ k : Slot, (formations.get k).valid = true → spaced doors (formations.get k)) ∧
    ∀ k : Slot, spacingFailure doors formations = some k ↔
      (formations.get k).valid = true ∧ ¬spaced doors (formations.get k) ∧
      ∀ j : Slot, j < k → (formations.get j).valid = true → spaced doors (formations.get j)

/-- A CONFIG_WRITE's fields from its bytes to its entry. A payload fits the layout exactly where it is the table, the
entry, the field set and the bytes of the carried fields in the order of the table, a formation's train door list last,
with nothing missing and nothing left over, and the request it then gives is the one that carries those fields; so a
payload cut short or run on fits none. Behind a field that the table does not define, and in a table that there is not,
the bytes have no layout. The first failing field is the first carried value out of its range, then the train door
list, then the first field that the table does not define; and with no failing field the written entry has each carried
field as carried and every other as stored, a carried train door list replacing the whole list (R1, R4, R6, R7, R8,
R11, R177). It rests on the model's choices of assumptions 11, 12, 17 and 26. -/
def Obligations.ConfigWriteFieldsCarriedOrStored : Prop :=
  (∀ (p : List Byte) (r : ConfigRequest), formConfigWrite p = some r ↔ configWriteBytes p r) ∧
  (∀ (p : List Byte) (r : ConfigRequest), formConfigWrite p = some r → 1 ≤ r.table → r.table ≤ 5 →
    r.undefined = none →
    (∀ q : List Byte, q ≠ [] → formConfigWrite (p ++ q) = none) ∧
    ∀ n : Nat, n < p.length → formConfigWrite (p.take n) = none) ∧
  (∀ (g : Geo) (r : ConfigRequest),
    (firstFailingField g r = none ↔ valuesInRange r ∧ trainDoorsFit g r ∧ r.undefined = none) ∧
    ∀ i, firstFailingField g r = some i →
      (∃ j v lo hi, i = j + 1 ∧ r.values[j]? = some (some v) ∧ (fieldRanges r.table)[j]? = some (lo, hi) ∧
        (v < lo ∨ hi < v) ∧
        ∀ (m : Nat) (w lo' hi' : Int), m < j → r.values[m]? = some (some w) →
          (fieldRanges r.table)[m]? = some (lo', hi') → lo' ≤ w ∧ w ≤ hi') ∨
      (valuesInRange r ∧ ¬trainDoorsFit g r ∧ i = 7) ∨
      (valuesInRange r ∧ trainDoorsFit g r ∧ r.undefined = some i)) ∧
  ∀ (g : Geo) (r : ConfigRequest), firstFailingField g r = none →
    (∀ old, r.table = 1 →
      carriedOrStored r (doorGeometryFields old) (doorGeometryFields (writtenDoorGeometry r old))) ∧
    (∀ old, r.table = 2 →
      carriedOrStored r (berthConstantsFields old) (berthConstantsFields (writtenBerthConstants r old))) ∧
    (∀ old, r.table = 3 → carriedOrStored r (timerFields old) (timerFields (writtenTimers r old))) ∧
    (∀ old, r.table = 4 → carriedOrStored r (sensingFields old) (sensingFields (writtenSensing r old))) ∧
    ∀ old, r.table = 5 →
      carriedOrStored r (formationFields old) (formationFields (writtenFormation r old)) ∧
      (writtenFormation r old).trainDoors =
        match r.trainDoors with
        | some l => l.map fun d => ⟨d.1, d.2⟩
        | none => old.trainDoors

/-- A CONFIG_WRITE in MAINTENANCE whose carried fields pass every check writes its entry to the GEO and to the store,
its carried fields as carried and the others as stored, and nothing else: berth constants, timers, formation records,
and door geometry and sensing entries whose fitted or enabled field stays (R1, R4, R6, R7, R8, R11, R12). A write with
an empty field set, of which no rule speaks, is among them and is taken: the model's choice of assumption 26. It rests
on the model's choices of assumptions 12, 17 and 26. -/
def Obligations.ConfigWriteWritesOneEntry : Prop :=
  ∀ (f : Frame) (r : ConfigRequest) (s : State), arrivedOn .station f s → s.mac.mode = .maintenance →
    formConfigWrite f.payload = some r → s.berth.state = .empty → firstFailingField s.geo r = none →
    (r.table = 2 → r.entry = 1 → berthConstantsFailure (writtenBerthConstants r s.geo.berth) = none →
      ∃ t, exec (.configWrite f) s = .next t ∧ taken f 0x48 s t ∧
        t.geo = { s.geo with berth := writtenBerthConstants r s.geo.berth } ∧
        t.store = { s.store with berth := writtenBerthConstants r s.geo.berth } ∧
        keepsBut [.links, .config] s t) ∧
    (r.table = 3 → r.entry = 1 →
      ∃ t, exec (.configWrite f) s = .next t ∧ taken f 0x48 s t ∧
        t.geo = { s.geo with timers := writtenTimers r s.geo.timers } ∧
        t.store = { s.store with timers := writtenTimers r s.geo.timers } ∧
        keepsBut [.links, .config] s t) ∧
    (∀ k : Slot, r.table = 5 → slotOfNumber r.entry = some k →
      formationFailure s.geo k (writtenFormation r (s.geo.formations.get k)) = none →
      ((writtenFormation r (s.geo.formations.get k)).valid = true →
        spacingFailure s.geo.doors
          (s.geo.formations.set k (writtenFormation r (s.geo.formations.get k))) = none) →
      ∃ t, exec (.configWrite f) s = .next t ∧ taken f 0x48 s t ∧
        t.geo.formations.get k = writtenFormation r (s.geo.formations.get k) ∧
        t.store.formations.get k = writtenFormation r (s.geo.formations.get k) ∧
        (∀ j : Slot, j ≠ k → t.geo.formations.get j = s.geo.formations.get j ∧
          t.store.formations.get j = s.store.formations.get j) ∧
        t.geo = { s.geo with formations := t.geo.formations } ∧
        t.store = { s.store with formations := t.store.formations } ∧ keepsBut [.links, .config] s t) ∧
    (∀ d : Door, r.table = 1 → doorOfNumber r.entry = some d →
      (writtenDoorGeometry r (s.geo.doors.get d)).fitted = (s.geo.doors.get d).fitted →
      doorTableConsistent (s.geo.doors.set d (writtenDoorGeometry r (s.geo.doors.get d))) = true →
      spacingFailure (s.geo.doors.set d (writtenDoorGeometry r (s.geo.doors.get d))) s.geo.formations = none →
      ∃ t, exec (.configWrite f) s = .next t ∧ taken f 0x48 s t ∧
        t.geo = { s.geo with doors := s.geo.doors.set d (writtenDoorGeometry r (s.geo.doors.get d)) } ∧
        t.store = { s.store with doors := s.store.doors.set d (writtenDoorGeometry r (s.geo.doors.get d)) } ∧
        keepsBut [.links, .config] s t) ∧
    ∀ c : Channel, r.table = 4 → channelOfNumber r.entry = some c →
      (writtenSensing r (s.geo.sensing.get c)).enabled = (s.geo.sensing.get c).enabled →
      ∃ t, exec (.configWrite f) s = .next t ∧ taken f 0x48 s t ∧
        t.geo = { s.geo with sensing := s.geo.sensing.set c (writtenSensing r (s.geo.sensing.get c)) } ∧
        t.store = { s.store with sensing := s.store.sensing.set c (writtenSensing r (s.geo.sensing.get c)) } ∧
        keepsBut [.links, .config] s t

/-- The writes that put hardware into or out of service, and the refusals of every write. A door made fitted starts in
INIT as at cold start and one taken out becomes ABSENT, each with its group's mark, every other mark kept, and its two
channels brought into line: a channel that comes into use goes from OFF to SETTLING with its baseline, sums and
counters zeroed, and one that goes out of use goes to OFF with its baseline kept; so does a channel enabled at a fitted
door or disabled, and a door that waits for the occupied doorway of a channel disabled goes to CLOSING under
SLOW_CLOSE_LOCK. The conversion in flight goes on, and the scan is taken up where none was and a channel is live. No
other door or channel changes, and nothing else but what these hand on. Refused are, in R11's order: every write while
the berth is not EMPTY; an entry that is not there; a carried field out of range or not of the table; taking out a door
in EMERGENCY, or one with an ACTIVE HANDLE record; an entry that would not be consistent, a door's with the neighbour
it fails against; and a formation that would fail the spacing validation, the lowest named (R2, R3, R4, R7, R9, R10,
R11, R70, R88, R97, R100, R102, R105). It rests on the model's choices of assumptions 12, 13, 15, 16, 17 and 23. -/
def Obligations.ConfigWriteRefusalsAndService : Prop :=
  ∀ (f : Frame) (r : ConfigRequest) (s : State), arrivedOn .station f s → s.mac.mode = .maintenance →
    formConfigWrite f.payload = some r →
    (s.berth.state ≠ .empty → ∃ t, exec (.configWrite f) s = .next t ∧ refusedAs f 0x48 .refusedState .none s t) ∧
    (s.berth.state = .empty → entryExists r.table r.entry = false →
      ∃ t, exec (.configWrite f) s = .next t ∧ refusedAs f 0x48 .refusedRange .none s t) ∧
    (∀ i, s.berth.state = .empty → entryExists r.table r.entry = true → firstFailingField s.geo r = some i →
      ∃ t, exec (.configWrite f) s = .next t ∧
        refusedAs f 0x48 .refusedRange
          (if 2 ≤ r.table ∧ r.table ≤ 4 ∧ i ≤ (fieldRanges r.table).length then .field i else .none) s t) ∧
    (∀ (d k : Door) (table : Tab 40 DoorGeometry), s.berth.state = .empty → firstFailingField s.geo r = none →
      r.table = 1 → doorOfNumber r.entry = some d →
      table = s.geo.doors.set d (writtenDoorGeometry r (s.geo.doors.get d)) → (table.get d).fitted = true →
      (neighbouring table k d ∧ ¬openingsClear table k d) ∨
        (neighbouring table d k ∧ ¬openingsClear table d k ∧
          ∀ j : Door, neighbouring table j d → openingsClear table j d) →
      ∃ t, exec (.configWrite f) s = .next t ∧ refusedAs f 0x48 .refusedRange (.door k) s t) ∧
    (∀ (d : Door) (k : Slot) (table : Tab 40 DoorGeometry), s.berth.state = .empty → firstFailingField s.geo r = none →
      r.table = 1 → doorOfNumber r.entry = some d →
      table = s.geo.doors.set d (writtenDoorGeometry r (s.geo.doors.get d)) →
      ((s.geo.doors.get d).fitted = true → (table.get d).fitted = false →
        (doorAt s d).state ≠ .emergency ∧ activeOf s.rlm.list (.handle d) = false) →
      doorTableConsistent table = true → spacingFailure table s.geo.formations = some k →
      ∃ t, exec (.configWrite f) s = .next t ∧ refusedAs f 0x48 .refusedRange (.slot k) s t) ∧
    (∀ i, s.berth.state = .empty → firstFailingField s.geo r = none → r.table = 2 → r.entry = 1 →
      berthConstantsFailure (writtenBerthConstants r s.geo.berth) = some i →
      ∃ t, exec (.configWrite f) s = .next t ∧ refusedAs f 0x48 .refusedRange (.field i) s t) ∧
    (∀ (k : Slot) (new : Formation), s.berth.state = .empty → firstFailingField s.geo r = none → r.table = 5 →
      slotOfNumber r.entry = some k → new = writtenFormation r (s.geo.formations.get k) →
      (∀ detail, formationFailure s.geo k new = some detail →
        ∃ t, exec (.configWrite f) s = .next t ∧ refusedAs f 0x48 .refusedRange detail s t) ∧
      ∀ j : Slot, formationFailure s.geo k new = none → new.valid = true →
        spacingFailure s.geo.doors (s.geo.formations.set k new) = some j →
        ∃ t, exec (.configWrite f) s = .next t ∧ refusedAs f 0x48 .refusedRange (.slot j) s t) ∧
    (∀ d : Door, s.berth.state = .empty → firstFailingField s.geo r = none → r.table = 1 →
      doorOfNumber r.entry = some d → (s.geo.doors.get d).fitted = true →
      (writtenDoorGeometry r (s.geo.doors.get d)).fitted = false →
      ((doorAt s d).state = .emergency ∨ activeOf s.rlm.list (.handle d) = true) →
      ∃ t, exec (.configWrite f) s = .next t ∧ refusedAs f 0x48 .refusedState .none s t) ∧
    (∀ d : Door, s.berth.state = .empty → firstFailingField s.geo r = none → r.table = 1 →
      doorOfNumber r.entry = some d →
      (writtenDoorGeometry r (s.geo.doors.get d)).fitted = !(s.geo.doors.get d).fitted →
      ((s.geo.doors.get d).fitted = true → (doorAt s d).state ≠ .emergency ∧
        activeOf s.rlm.list (.handle d) = false) →
      doorTableConsistent (s.geo.doors.set d (writtenDoorGeometry r (s.geo.doors.get d))) = true →
      spacingFailure (s.geo.doors.set d (writtenDoorGeometry r (s.geo.doors.get d))) s.geo.formations = none →
      ∃ t, exec (.configWrite f) s = .next t ∧ taken f 0x48 s t ∧
        t.geo = { s.geo with doors := s.geo.doors.set d (writtenDoorGeometry r (s.geo.doors.get d)) } ∧
        t.store = { s.store with doors := s.store.doors.set d (writtenDoorGeometry r (s.geo.doors.get d)) } ∧
        doorAt t d = DoorRecord.cold (!(s.geo.doors.get d).fitted) ∧
        (∀ e : Door, e ≠ d → doorAt t e = doorAt s e) ∧ t.dlc.marks = s.dlc.marks.set (doorGroup d) true ∧
        (s.dlc.survey = .complete → keepsPart .survey s t ∧ keepsPart .releases s t) ∧
        (∀ c : Channel, channelDoor c = d →
          channelFollowed ((s.geo.sensing.get c).enabled && !(s.geo.doors.get d).fitted)
            (channelAt s c) (channelAt t c)) ∧
        (∀ c : Channel, channelDoor c ≠ d → channelAt t c = channelAt s c) ∧ scanFollows s t ∧
        keepsBut [.links, .config, .doors, .marks, .survey, .channels, .views, .releases, .secure, .test] s t) ∧
    ∀ c : Channel, s.berth.state = .empty → firstFailingField s.geo r = none → r.table = 4 →
      channelOfNumber r.entry = some c →
      (writtenSensing r (s.geo.sensing.get c)).enabled = !(s.geo.sensing.get c).enabled →
      ∃ t, exec (.configWrite f) s = .next t ∧ taken f 0x48 s t ∧
        t.geo = { s.geo with sensing := s.geo.sensing.set c (writtenSensing r (s.geo.sensing.get c)) } ∧
        t.store = { s.store with sensing := s.store.sensing.set c (writtenSensing r (s.geo.sensing.get c)) } ∧
        channelFollowed (!(s.geo.sensing.get c).enabled && fitted s (channelDoor c))
          (channelAt s c) (channelAt t c) ∧
        (∀ e : Channel, e ≠ c → channelAt t e = channelAt s e) ∧ scanFollows s t ∧ channelActsOnDoor c s t ∧
        marksFollow s t ∧
        (∀ d : Door, d ≠ channelDoor c ∨ isGap c = true → doorAt t d = doorAt s d) ∧
        keepsBut [.links, .config, .doors, .marks, .channels, .views, .secure] s t

/-- DOOR_TEST in MAINTENANCE: a fitted CLOSED_LOCKED door at an EMPTY berth, with no test RUNNING and no PER or FIRE
record ACTIVE, is unlocked with a close pending, its reopen count, slow close, cut-out, gap bypass, miss count and last
report kept, and the test record is RUNNING; else it is refused. RESTART in MAINTENANCE is replied DONE, nothing else
is sent, and with no command waiting the next step is the warm restart (R149, R174). A test runs only at an EMPTY berth
in MAINTENANCE, and every step keeps that. After every command but a start, a RUNNING test is ABORTED with MODE where
the mode has left MAINTENANCE, with BERTH where the berth has left EMPTY; else it is PASSED where its door has entered
CLOSED_LOCKED (also where a release in force unlocks the door again in the same event), ABORTED with OPENED or with the
state where it has entered OPEN, FAULT, EMERGENCY, ISOLATED, INIT or ABSENT, and RUNNING still in every other case,
whatever other doors do. An ended test, or none, stays until a DOOR_TEST (R150). It rests on the model's choices of
assumptions 7, 13 and 16. -/
def Obligations.DoorTestAndRestart : Prop :=
  (∀ (f : Frame) (b : Byte) (s : State), arrivedOn .station f s → s.mac.mode = .maintenance → f.payload = [b] →
    s.dlc.releaseInForce = perFireActive s.rlm.list →
    (doorOfNumber b.toNat = none → ∃ t, exec (.doorTest f) s = .next t ∧ refusedAs f 0x49 .refusedRange .none s t) ∧
    ∀ d : Door, doorOfNumber b.toNat = some d →
      ∃ t, exec (.doorTest f) s = .next t ∧
        if s.mac.berthView ≠ .empty ∨ testRunning s.mac = true ∨ fitted s d = false ∨
            (doorAt s d).state ≠ .closedLocked ∨ perFireActive s.rlm.list = true then
          refusedAs f 0x49 .refusedState .none s t
        else
          taken f 0x49 s t ∧ t.mac.test = some ⟨d, .running, none⟩ ∧
          doorAt t d = { unlockingRecord s.geo.timers (doorAt s d) with closePending := true } ∧
          (∀ e : Door, e ≠ d → doorAt t e = doorAt s e) ∧
          t.dlc.marks = s.dlc.marks.set (doorGroup d) true ∧
          keepsBut [.links, .doors, .marks, .views, .test, .secure] s t) ∧
  (∀ (f : Frame) (s : State), arrivedOn .station f s → s.mac.mode = .maintenance → f.payload = [] →
    ∃ t, exec (.restart f) s = .next t ∧ taken f 0x4B s t ∧
      t.sent = [.frame .station f.version f.seq (.reply ⟨0x4B, .done, .none, none⟩)] ∧ t.restartDue = true ∧
      t.pending = s.pending ∧ keepsBut [.links, .queue] s t ∧
      (s.pending = [] → step t = exec (.warmRestart (presentLevels s)) t)) ∧
  (∀ s t : State, copiesInv s → testInv s → step s = .next t → testInv t) ∧
  ∀ (c : Instr) (s t : State), exec c s = .next t → isStart c = false → testInv s →
    (∀ r, s.mac.test = some r → r.state = .running → ∃ r', t.mac.test = some r' ∧ testAfter c s t r r') ∧
    ((∀ r, s.mac.test = some r → r.state ≠ .running) → (∀ f, c ≠ .doorTest f) → t.mac.test = s.mac.test)

/-! ## Console events (chapters 6 and 8) -/

/-- R139: an edge of the LOCAL switch stores its position; in AUTOMATIC or LOCAL an edge to LOCAL makes the mode LOCAL
and an edge to REMOTE makes it AUTOMATIC, and in MAINTENANCE or FIRE the mode stays. -/
def Obligations.LocalSwitchEdgeChoosesMode : Prop :=
  ∀ (p : SwitchPosition) (s : State), s.mac.localSwitch ≠ p →
    ∃ t, exec (.localSwitchEdge p) s = .next t ∧
      t.mac = { s.mac with
        localSwitch := p
        mode :=
          if s.mac.mode = .automatic ∨ s.mac.mode = .localMode then
            (if p = .atLocal then .localMode else .automatic)
          else s.mac.mode } ∧
      keepsBut [.modes, .secure] s t

/-- The keys: a removal of the MAINTENANCE key in MAINTENANCE makes the mode LOCAL and aborts a RUNNING door test; every
other change of either key stores its position alone. The release of a button stores its level alone. The position that
the LOCAL switch holds already is no edge (R141, R147, R150). A console button pressed in another mode than LOCAL is
recorded with REFUSED_MODE and the device time, the count advancing to at most 255, and but for its own level nothing
else changes; a button that stands pressed already gives no request (R147, R148). It rests on the model's choice of
assumption 9. -/
def Obligations.KeysButtonReleasesAndRefusedButtons : Prop :=
  (∀ s : State, ∃ t, exec (.localSwitchEdge s.mac.localSwitch) s = .next t ∧ t.mac = s.mac ∧ keepsBut [] s t) ∧
  ((∀ (on : Bool) (s : State), ∃ t, exec (.maintenanceKeyChange on) s = .next t ∧
    t.mac =
      (if s.mac.maintenanceKey = true ∧ on = false ∧ s.mac.mode = .maintenance then
        { s.mac with maintenanceKey := false, mode := .localMode, test := abortTest .mode s.mac.test }
      else { s.mac with maintenanceKey := on }) ∧
    keepsBut [.modes, .test, .secure] s t) ∧
  (∀ (on : Bool) (s : State), ∃ t, exec (.restoreKeyChange on) s = .next t ∧
    t.mac = { s.mac with restoreKey := on } ∧ keepsBut [.modes] s t) ∧
  ∀ (b : Button) (s : State), ∃ t, exec (.buttonRelease b) s = .next t ∧
    t.mac = buttonStored b false s.mac ∧ keepsBut [.modes] s t) ∧
  ∀ (s : State) (c : Instr) (b : Button),
    (c = .localOpen ∧ b = .localOpen) ∨ (c = .localClose ∧ b = .localClose) ∨
      (c = .forceCloseButton ∧ b = .forceClose) →
    ∃ t, exec c s = .next t ∧
      (buttonPressed s.mac b = true → t.mac = s.mac ∧ keepsBut [] s t) ∧
      (buttonPressed s.mac b = false → s.mac.mode ≠ .localMode →
        t.mac = { buttonStored b true s.mac with
          lastRefusal := some ⟨b, .refusedMode, s.rlm.deviceTime⟩
          refusalCount := min 255 (s.mac.refusalCount + 1) } ∧
        keepsBut [.modes] s t)

/-- LOCAL_OPEN in LOCAL: in RELEASED with a matching authorisation it hands an open command to every door of the enable
set that stands CLOSED_LOCKED, CLOSE_WAIT, CLOSING or REOPENING and to no other door, and makes close requested no; in
STOPPED or DISPATCHING, where every check of R49 passes, a MISALIGNED stop partially authorised among them, it grants
the release, which sets the enable set, widens the gap watch set by it and hands the door summary, sent where a session
is open, and opens the closed doors of the new enable set; the marks of the changed doors' groups are set and no
others. It is recorded as refused REFUSED_ALIGNMENT where check 2 fails, REFUSED_ID without a matching authorisation,
in RELEASED too, and in EMPTY, ARRIVING, DEPARTING and CREEP REFUSED_STATE; a refusal records its button, code and
device time and changes nothing else (R49, R50, R52, R68, R84, R148). -/
def Obligations.LocalOpenReleasesAndOpens : Prop :=
  ∀ s : State, s.mac.mode = .localMode → s.mac.localOpenPressed = false →
    (∀ id, s.berth.state = .released → s.berth.authorisation = some id → s.berth.trainId = some id →
      ∃ t, exec .localOpen s = .next t ∧
        (∀ d : Door, if s.berth.enableSet.get d = true then openRequested s t d else doorAt t d = doorAt s d) ∧
        t.berth = { s.berth with closeRequested := false } ∧ settleKept s t ∧
        t.departureQuiet = s.departureQuiet ∧ marksFollow s t ∧
        t.mac = { s.mac with localOpenPressed := true, test := t.mac.test } ∧
        keepsBut [.berth, .doors, .marks, .views, .modes, .test, .secure] s t) ∧
    (∀ id, s.berth.state = .stopped ∨ s.berth.state = .dispatching → stopPermits s →
      s.berth.authorisation = some id → s.berth.trainId = some id →
      ∃ t, exec .localOpen s = .next t ∧
        t.berth = { s.berth with
          state := .released, enableSet := t.berth.enableSet, gapWatch := t.berth.gapWatch,
          closeRequested := false } ∧
        (∀ d : Door, t.berth.enableSet.get d = true ↔
          d ∈ pairedDoors s.berth ∧ fitted s d = true ∧ (doorAt s d).cutOut = false ∧
          ((doorAt s d).state = .closedLocked ∨ (doorAt s d).state = .opened)) ∧
        (∀ d : Door, t.berth.gapWatch.get d = (s.berth.gapWatch.get d || t.berth.enableSet.get d)) ∧
        settleKept s t ∧ t.departureQuiet = s.departureQuiet ∧
        t.tlp.heldSummary = some (summaryOf s.dlc.doors t.berth) ∧
        (∀ v, s.tlp.session = .opened → s.tlp.sessionVersion = some v → s.restartDue = false →
          ∃ q, .frame .train v q (.doorSummary s.tlp.sessionTrainId
            (summaryLines v s.dlc.doors t.berth.enableSet s.berth)) ∈ t.sent) ∧
        (∀ d : Door, if t.berth.enableSet.get d = true then openRequested s t d else doorAt t d = doorAt s d) ∧
        marksFollow s t ∧
        t.mac = { s.mac with localOpenPressed := true, berthView := .released, test := t.mac.test } ∧
        keepsBut [.berth, .doors, .marks, .views, .modes, .test, .secure, .summary] s t) ∧
    ∀ code : ResultCode,
      ((s.berth.state = .empty ∨ s.berth.state = .arriving ∨ s.berth.state = .departing ∨ s.berth.state = .creep) ∧
          code = .refusedState) ∨
        ((s.berth.state = .stopped ∨ s.berth.state = .dispatching) ∧ ¬stopPermits s ∧ code = .refusedAlignment) ∨
        ((s.berth.state = .released ∨
            ((s.berth.state = .stopped ∨ s.berth.state = .dispatching) ∧ stopPermits s)) ∧
          (s.berth.authorisation = none ∨ s.berth.authorisation ≠ s.berth.trainId) ∧ code = .refusedId) →
      ∃ t, exec .localOpen s = .next t ∧
        t.mac = { s.mac with
          localOpenPressed := true, lastRefusal := some ⟨.localOpen, code, s.rlm.deviceTime⟩,
          refusalCount := min 255 (s.mac.refusalCount + 1) } ∧
        keepsBut [.modes] s t

/-- LOCAL_CLOSE in LOCAL closes every open fitted door, whatever the berth state: an OPEN one goes to CLOSE_WAIT with a
close pending, slow close and every other field that the entry does not name kept, an OPENING one has a close pending,
every other door stays; in RELEASED and CREEP close requested is set, and in RELEASED with every enable-set door closed
the berth becomes DISPATCHING. While a PER or FIRE record is ACTIVE it is recorded as refused. Of the console it
changes the button's level, the last refusal and its count where it is refused, and what the berth and the doors make
of its copies (R53, R54, R69, R70, R71, R148). -/
def Obligations.LocalCloseClosesOpenDoors : Prop :=
  ∀ s : State, s.mac.mode = .localMode → s.mac.localClosePressed = false →
    s.dlc.releaseInForce = perFireActive s.rlm.list →
    ∃ t, exec .localClose s = .next t ∧
      if perFireActive s.rlm.list = true then
        t.mac = { s.mac with
          localClosePressed := true, lastRefusal := some ⟨.localClose, .refusedState, s.rlm.deviceTime⟩,
          refusalCount := min 255 (s.mac.refusalCount + 1) } ∧
        keepsBut [.modes] s t
      else
        (∀ d : Door,
          if fitted s d = true ∧ ((doorAt s d).state = .opened ∨ (doorAt s d).state = .opening) then
            ((doorAt s d).state = .opened → closeWaitEntered (doorAt s d).slowClose true s t d) ∧
            ((doorAt s d).state = .opening → doorAt t d = { doorAt s d with closePending := true })
          else doorAt t d = doorAt s d) ∧
        t.berth =
          (if s.berth.state = .released then
            if enableSetClosed s = true then
              { s.berth with state := .dispatching, enableSet := DoorSet.empty, closeRequested := false }
            else { s.berth with closeRequested := true }
          else if s.berth.state = .creep then { s.berth with closeRequested := true }
          else s.berth) ∧
        settleKept s t ∧ t.departureQuiet = s.departureQuiet ∧ marksFollow s t ∧
        t.mac = { s.mac with
          localClosePressed := true, test := t.mac.test
          berthView := if t.berth.state = s.berth.state then s.mac.berthView else t.berth.state } ∧
        keepsBut [.berth, .doors, .marks, .views, .modes, .test, .secure] s t

/-- The PER and FIRE lines: an assertion is stored and is a trigger; where its record is then ACTIVE every fitted door
that is not INIT, EMERGENCY, ISOLATED or FAULT takes an open command by the rows of R68, an OPEN one staying open, and
the marks of the changed doors' groups are set and no others; the FIRE line makes the mode FIRE and, de-asserted,
LOCAL. A de-assertion clears the records of its source and commands no door. A level already held is no event. Of the
console a line changes its own level and the mode alone, but for a test that the door or the mode ends (R68, R84, R109,
R111, R114, R142, R150). It rests on the model's choices of assumptions 9 and 16. What a trigger of any source leaves
is what the rows of R109 and the fields of R107 say: last time and, for TRAIN, train id of an ACTIVE record; a CLEARED
one ACTIVE again, its occurrences advanced to at most 255; a new one at the end with the lowest free number,
occurrences 1 and both times the device time; with 16 records held, the list as it was, and the overflow. -/
def Obligations.ReleaseLinesTriggerAndClear : Prop :=
  (∀ (now : Nat) (trainId : Option Nat) (src : ReleaseSource) (l : List ReleaseRecord),
    triggerRows now trainId src l (triggered now trainId src l) ∧
    (overflows l src = true ↔ (∀ r ∈ l, r.source ≠ src) ∧ 16 ≤ l.length)) ∧
  ∀ s : State,
    (∃ t, exec .perLineAssert s = .next t ∧
      if s.rlm.perLine = true then keepsBut [] s t
      else
        lineAsserted .per s t ∧ t.rlm.perLine = true ∧ t.rlm.fireLine = s.rlm.fireLine ∧
        keepsBut [.doors, .marks, .views, .releases, .secure, .test, .flags] s t) ∧
    (∃ t, exec .fireLineAssert s = .next t ∧
      if s.rlm.fireLine = true then keepsBut [] s t
      else
        lineAsserted .fire s t ∧ t.rlm.fireLine = true ∧ t.rlm.perLine = s.rlm.perLine ∧
        t.mac = { s.mac with mode := .fire, fireLine := true, test := t.mac.test } ∧
        keepsBut [.doors, .marks, .views, .releases, .secure, .modes, .test, .flags] s t) ∧
    (∃ t, exec .perLineDeassert s = .next t ∧
      if s.rlm.perLine = false then keepsBut [] s t
      else
        t.rlm = { s.rlm with
          perLine := false
          list := s.rlm.list.map fun r => if r.source = .per then { r with state := .cleared } else r } ∧
        t.dlc.releaseInForce = perFireActive t.rlm.list ∧ keepsBut [.releases] s t) ∧
    ∃ t, exec .fireLineDeassert s = .next t ∧
      if s.rlm.fireLine = false then keepsBut [] s t
      else
        t.rlm = { s.rlm with
          fireLine := false
          list := s.rlm.list.map fun r => if r.source = .fire then { r with state := .cleared } else r } ∧
        t.dlc.releaseInForce = perFireActive t.rlm.list ∧
        t.mac = { s.mac with
          fireLine := false, mode := if s.mac.mode = .fire then .localMode else s.mac.mode } ∧
        keepsBut [.releases, .secure, .modes] s t

/-! ## Reader inputs (chapter 2) -/

/-- LINE_TRANSITION at the reader: the pair of levels is stored; a NORMAL reader counts a step to the next or previous
state by its sense, with edge seen, last step and, on a reversal, direction change, and stores nothing of a step that
saturation refuses but saturated; a change of both lines is counted as illegal, and the fourth while NORMAL puts the
reader into FAULT; in FAULT no step is counted. The other reader is untouched (R17, R19, R20, R26, R27).
HEALTH_LINE_DROP puts a NORMAL reader into FAULT with cause HEALTH, its capture no longer valid and its attention flag
set, and leaves a reader already in FAULT as it is but for the level; HEALTH_LINE_RISE stores the level alone (R26,
R27). A reader that enters FAULT, on either, sets its attention flag, and in STOPPED the measuring reader's fault has
the alignment computed anew from the record it leaves, the stop count kept; otherwise the berth stays as it was (R26,
R44). It rests on the model's choice of assumption 9. -/
def Obligations.LineTransitionsAndHealthLine : Prop :=
  (∀ (e : End) (lines : LineState) (s : State), ∃ t, exec (.lineTransition e lines) s = .next t ∧
    (∀ e' : End, e' ≠ e → readerAt t e' = readerAt s e') ∧
    (lines = (readerAt s e).lineState → readerAt t e = readerAt s e) ∧
    (∀ dir : End,
      lines = (match dir with
        | .b => (readerAt s e).lineState + 1
        | .a => (readerAt s e).lineState - 1) →
      readerAt t e =
        if (readerAt s e).faultState = .fault then { readerAt s e with lineState := lines }
        else if dir = (readerAt s e).sense ∧ (readerAt s e).count = 32767 ∨
            dir ≠ (readerAt s e).sense ∧ (readerAt s e).count = -32768 then
          if (readerAt s e).captureValid = true then
            { readerAt s e with
              lineState := lines, saturated := true, faultState := .fault, faultCause := some .saturated,
              captureValid := false }
          else { readerAt s e with lineState := lines, saturated := true }
        else
          { readerAt s e with
            lineState := lines
            count := if dir = (readerAt s e).sense then (readerAt s e).count + 1 else (readerAt s e).count - 1
            edgeSeen := true
            directionChange := (readerAt s e).directionChange ||
              ((readerAt s e).lastStep != .none && (readerAt s e).lastStep != .towards dir)
            lastStep := .towards dir }) ∧
    (lines = (readerAt s e).lineState + 2 →
      readerAt t e =
        if (readerAt s e).faultState = .normal ∧ min 255 ((readerAt s e).illegalCount + 1) = 4 then
          { readerAt s e with
            lineState := lines, illegalCount := 4, faultState := .fault, faultCause := some .illegal,
            captureValid := false }
        else
          { readerAt s e with lineState := lines, illegalCount := min 255 ((readerAt s e).illegalCount + 1) }) ∧
    keepsBut [.readers, .berth, .views, .test, .secure, .flags] s t) ∧
  (∀ (e : End) (c : Instr) (s : State), c = .healthLineDrop e ∨ (∃ lines, c = .lineTransition e lines) →
    (readerAt s e).faultState = .normal →
    ∃ t, exec c s = .next t ∧ ((readerAt t e).faultState = .fault →
      t.slp.flags = s.slp.flags.set (AttentionFlag.index (readerFlag e)) true ∧
      t.berth =
        (if s.berth.state = .stopped ∧ s.berth.heading = some e then align s.geo e (readerAt t e) s.berth
        else s.berth) ∧
      t.berth.stopCount = s.berth.stopCount ∧ settleKept s t ∧ t.departureQuiet = s.departureQuiet ∧
      keepsBut [.readers, .berth, .flags] s t)) ∧
  ∀ (e : End) (s : State),
    (∃ t, exec (.healthLineDrop e) s = .next t ∧
      (∀ e' : End, e' ≠ e → readerAt t e' = readerAt s e') ∧
      if (readerAt s e).health = true ∧ (readerAt s e).faultState = .normal then
        readerAt t e = { readerAt s e with
          health := false, faultState := .fault, faultCause := some .health, captureValid := false } ∧
        t.slp.flags = s.slp.flags.set (AttentionFlag.index (readerFlag e)) true ∧
        t.berth.state = s.berth.state ∧ keepsBut [.readers, .berth, .flags] s t
      else readerAt t e = { readerAt s e with health := false } ∧ keepsBut [.readers] s t) ∧
    ∃ t, exec (.healthLineRise e) s = .next t ∧ readerAt t e = { readerAt s e with health := true } ∧
      (∀ e' : End, e' ≠ e → readerAt t e' = readerAt s e') ∧ keepsBut [.readers] s t

/-- BEAM_BREAK and BEAM_CLEAR at the reader and the berth: a break makes a capture in a NORMAL reader whose last step
is forward or NONE, a clear cancels it after a backward last step, and neither changes anything else of that reader nor
anything of the other, but that a heading entered with a break is handed to both as their sense; a break at an EMPTY
berth makes it ARRIVING; a clear of the measuring beam in DEPARTING makes it EMPTY, with both readers zeroed, their
line states, beams, health and faults kept, the session ended and every TRAIN record cleared. In ARRIVING every beam
notice starts the stop settle time anew; a clear that leaves both beams CLEAR without a session starts the departure
quiet time, and a break ends it. In the other states a beam that does not measure changes nothing at the berth. A level
already held is no event (R23, R24, R25, R30, R33, R34, R37, R45, R58, R59, R115, R157). It rests on the model's
choices of assumptions 9 and 14. -/
def Obligations.BeamsCaptureAndOccupy : Prop :=
  ∀ (e : End) (s : State),
    ((readerAt s e).beam = .broken → ∃ t, exec (.beamBreak e) s = .next t ∧ keepsBut [] s t) ∧
    ((readerAt s e).beam = .clear → ∃ t, exec (.beamClear e) s = .next t ∧ keepsBut [] s t) ∧
    ((readerAt s e).beam = .clear →
      ∃ t, exec (.beamBreak e) s = .next t ∧
        readersAfterBeam e (beamBroken (readerAt s e))
          (s.berth.state = .arriving ∧ s.berth.heading = none ∧
            (readerAt s e).lastStep = .towards (readerAt s e).sense) s t ∧
        (s.berth.state = .empty →
          t.berth = { s.berth with state := .arriving, edgeClear := false } ∧
          settleStarted s t ∧ t.mac.berthView = .arriving ∧
          keepsBut [.readers, .berth, .views, .test, .secure] s t) ∧
        (s.berth.state = .arriving → s.berth.heading = none →
          (readerAt s e).lastStep = .towards (readerAt s e).sense →
          t.berth = { s.berth with heading := some e } ∧ settleStarted s t ∧ keepsBut [.readers, .berth] s t) ∧
        (s.berth.state = .arriving →
          (s.berth.heading ≠ none ∨ (readerAt s e).lastStep ≠ .towards (readerAt s e).sense → t.berth = s.berth) ∧
          settleStarted s t ∧
          t.departureQuiet =
            (if s.readerA.beam = .clear ∧ s.readerB.beam = .clear ∧ s.tlp.session = .none then none
            else s.departureQuiet) ∧
          keepsBut [.readers, .berth] s t) ∧
        (s.berth.state ≠ .empty → s.berth.state ≠ .arriving → s.berth.heading ≠ some e →
          keepsBut [.readers] s t)) ∧
    ((readerAt s e).beam = .broken →
      ∃ t, exec (.beamClear e) s = .next t ∧
        (s.berth.state = .departing ∧ s.berth.heading = some e →
          berthEmptied (if e = .a then beamCleared s.readerA else s.readerA)
            (if e = .b then beamCleared s.readerB else s.readerB) s t) ∧
        (¬(s.berth.state = .departing ∧ s.berth.heading = some e) →
          readersAfterBeam e (beamCleared (readerAt s e)) False s t ∧
          (s.berth.state = .empty →
            t.berth = s.berth ∧ settleKept s t ∧ keepsBut [.readers] s t) ∧
          (s.berth.state = .arriving →
            t.berth = s.berth ∧ settleStarted s t ∧
            t.departureQuiet =
              (if t.readerA.beam = .clear ∧ t.readerB.beam = .clear ∧ s.tlp.session = .none then
                some Config.departureQuiet
              else s.departureQuiet) ∧
            keepsBut [.readers, .berth] s t) ∧
          (s.berth.state ≠ .empty → s.berth.state ≠ .arriving → s.berth.heading ≠ some e →
            keepsBut [.readers] s t)))

/-! ## Door loop (chapter 4) -/

/-- POLL_SEND with no poll under way sends one poll to the next position not ABSENT, in ascending address and round to
the lowest, the lowest of all at the first poll after a start, with its current command and, with a command other than
HOLD in phase ON, its lamp bit, and awaits the reply; with every position ABSENT it does nothing, and nothing while a
poll is under way. POLL_MISS ends the poll under way and counts a miss; the third in a row faults a door that is not
FAULT or EMERGENCY, with cause COMMS, its HANDLE record cleared where it stood in INIT, sets its group's mark and takes
it out of the enable set, and with it may complete a close; any other miss changes that door's miss count alone, unless
a survey left running with no door in INIT, which no run reaches, completes. A position in ABSENT has no misses. A
reply or a miss of no poll under way changes nothing (R51, R54, R62, R63, R64, R76, R83, R84, R119). It rests on the
model's choices of assumptions 4, 15 and 27. -/
def Obligations.PollsAndMisses : Prop :=
  (∀ s : State, ∃ t, exec .pollSend s = .next t ∧
    (s.dlc.awaitingReply = true → s.dlc.lastPolled.isSome = true → t.sent = [] ∧ keepsBut [] s t) ∧
    (s.dlc.awaitingReply = false →
      ∃ choice, goesRound (fun d : Door => (doorAt s d).state ≠ .absent) s.dlc.lastPolled choice ∧
        match choice with
        | some d =>
          t.sent = [.poll d (doorAt s d).command
            ((doorAt s d).command != none && (doorAt s d).command != some .hold &&
              (doorAt s d).warningPhase == .on)] ∧
          t.dlc.lastPolled = some d ∧ t.dlc.awaitingReply = true ∧ keepsBut [.polling] s t
        | none => t.sent = [] ∧ keepsBut [] s t)) ∧
  (∀ (d : Door) (s : State), s.dlc.awaitingReply = false ∨ s.dlc.lastPolled ≠ some d →
    (∀ rep, ∃ t, exec (.pollReply d rep) s = .next t ∧ t.sent = [] ∧ keepsBut [] s t) ∧
    ∃ t, exec (.pollMiss d) s = .next t ∧ t.sent = [] ∧ keepsBut [] s t) ∧
  ∀ (d : Door) (s : State), s.dlc.awaitingReply = true → s.dlc.lastPolled = some d →
    ∃ t, exec (.pollMiss d) s = .next t ∧ t.dlc.awaitingReply = false ∧ t.dlc.lastPolled = some d ∧
      (∀ e : Door, e ≠ d → doorAt t e = doorAt s e) ∧
      (if (doorAt s d).state = .absent then doorAt t d = doorAt s d ∧ keepsBut [.polling] s t
       else if (doorAt s d).missCount + 1 = 3 ∧ (doorAt s d).state ≠ .fault ∧ (doorAt s d).state ≠ .emergency then
        doorFaulted .comms { doorAt s d with missCount := 3 } s t d ∧
        t.dlc.marks = s.dlc.marks.set (doorGroup d) true ∧ berthFollowsDoor .fault s t d ∧
        (surveyInv s → (doorAt s d).state ≠ .init → keepsPart .survey s t ∧ keepsPart .releases s t) ∧
        ((doorAt s d).state = .init → s.dlc.survey = .complete → keepsPart .survey s t ∧
          t.rlm = { s.rlm with list := handleCleared d s.rlm.list } ∧
          t.dlc.releaseInForce = perFireActive s.rlm.list) ∧
        keepsBut [.berth, .doors, .marks, .survey, .polling, .views, .releases, .test, .secure, .summary, .flags] s t
       else
        doorAt t d = { doorAt s d with missCount := min 3 ((doorAt s d).missCount + 1) } ∧
        (surveyInv s → keepsBut [.doors, .polling] s t) ∧
        keepsBut [.doors, .survey, .polling, .releases, .secure] s t)

/-- A report that shows the handle NORMAL, the isolation switch NORMAL and no motor fault, of a unit not restarted, at
a door that is opening, closing or reopening: the leaf OPEN ends the opening, unlocked alone goes from UNLOCKING on to
OPENING, which no other leaf changes, closed and locked ends the close with the reopen count gone, an obstruction
reverses a close with the count advanced (slow close at the third) or, after three reversals, blocks it; a REOPENING
door found OPEN goes OPEN, or holds for the reopen hold with a close pending; and a door that goes OPEN while a close
is requested, in the enable set of a RELEASED berth or in CREEP, is handed a close command at once. A reversal keeps
close pending, and every field of the record that these do not name stays. The report is stored and the miss count
zeroed; the door's state decides what becomes of the enable set, and nothing outside the door, its group's mark, which
is set where the door has changed, the flags, the survey, the releases, the berth record and what is computed of them
changes (R51, R53, R64, R65, R68, R69, R71, R72, R84). A close completed while a close is requested: the last door of
the enable set to report closed and locked makes the berth DISPATCHING with the enable set emptied and the gap watch
set kept (R54). It rests on the model's choices of assumptions 4 and 15. -/
def Obligations.ReportsDriveOpeningAndClosing : Prop :=
  (∀ (d : Door) (rep : Report) (s : State), rep.handle = .normal → rep.isolation = .normal → rep.motorFault = false →
    rep.unitRestarted = false → s.dlc.awaitingReply = true → s.dlc.lastPolled = some d →
    ∃ t, exec (.pollReply d rep) s = .next t ∧ reportFrame d rep s t ∧
      (surveyInv s →
        (doorAt s d).state ≠ .init → (doorAt s d).state ≠ .isolated → (doorAt s d).state ≠ .emergency →
        keepsPart .survey s t ∧ keepsPart .releases s t ∧
        t.slp.flags =
          (if (doorAt t d).state = .closeBlocked ∧ (doorAt s d).state ≠ .closeBlocked then
            s.slp.flags.set (AttentionFlag.index .closeBlocked) true
          else s.slp.flags)) ∧
      ((doorAt s d).state ≠ .absent →
        (doorAt t d).lastReport = some rep ∧ (doorAt t d).missCount = 0) ∧
      (let heard := heardRecord rep (doorAt s d)
       let tm := s.geo.timers
       ((doorAt s d).state = .unlocking ∨ (doorAt s d).state = .opening → rep.leaf = .opened →
         doorAt t d =
           if (doorAt s d).closePending = true ∨ reClosed s d then closeWaitRecord tm heard.slowClose true heard
           else openedRecord heard.command heard) ∧
       ((doorAt s d).state = .unlocking → rep.leaf ≠ .opened →
         doorAt t d = if rep.locked = true then heard else openingRecord tm heard) ∧
       ((doorAt s d).state = .opening → rep.leaf ≠ .opened → doorAt t d = heard) ∧
       ((doorAt s d).state = .closing →
         doorAt t d =
           if rep.leaf = .closed ∧ rep.locked = true then lockedRecord heard
           else if rep.obstruction = false then heard
           else if (doorAt s d).reopenCount < 3 then reversedRecord tm heard
           else blockedRecord .obstruction heard) ∧
       ((doorAt s d).state = .reopening →
         doorAt t d =
           if rep.leaf = .opened then
             if (doorAt s d).closePending = true then
               { heard with stateTimer :=
                   if timerIs .reopenHold heard = true then heard.stateTimer
                   else some ⟨.reopenHold, tm.reopenHold⟩ }
             else if reClosed s d then closeWaitRecord tm heard.slowClose true heard
             else openedRecord heard.command heard
           else heard)) ∧
      ((doorAt s d).state = .opened ∨ (doorAt s d).state = .closedLocked ∨ (doorAt s d).state = .closeWait ∨
          (doorAt s d).state = .closeBlocked ∨ (doorAt s d).state = .fault →
        doorAt t d = heardRecord rep (doorAt s d))) ∧
  ∀ (d : Door) (rep : Report) (s : State), rep.handle = .normal → rep.isolation = .normal → rep.motorFault = false →
    rep.unitRestarted = false → s.dlc.awaitingReply = true → s.dlc.lastPolled = some d →
    rep.leaf = .closed → rep.locked = true →
    (doorAt s d).state = .closing → s.berth.state = .released → s.berth.enableSet.get d = true →
    s.berth.closeRequested = true →
    (∀ e : Door, e ≠ d → s.berth.enableSet.get e = true →
      (doorAt s e).state = .closedLocked ∨ (doorAt s e).state = .isolated) →
    ∃ t, exec (.pollReply d rep) s = .next t ∧ (doorAt t d).state = .closedLocked ∧
      t.berth = { s.berth with state := .dispatching, enableSet := DoorSet.empty, closeRequested := false } ∧
      settleKept s t ∧ t.departureQuiet = s.departureQuiet ∧ t.mac.berthView = .dispatching ∧ (∀ e : Door, e ≠ d → doorAt t e = doorAt s e) ∧
      keepsBut [.berth, .doors, .marks, .survey, .polling, .views, .test, .secure, .releases] s t

/-- Adoption, of a door in INIT, of one whose unit has restarted, and of one back from isolation, by the first row of
R66 that matches: EMERGENCY by a pulled handle, ISOLATED or FAULT by the isolation switch, FAULT by the motor,
CLOSED_LOCKED (or unlocked at once by a PER or FIRE release in force), OPEN under HOLD (or closed where a close is
requested), or INIT with the open timeout; with the handle NORMAL its HANDLE record is cleared. Otherwise a report that
shows the handle PULLED puts a door into EMERGENCY under HOLD, out of the enable set, and triggers its HANDLE record (a
door there already stays as it is, and so do the releases unless the survey completes with this report); one that shows
it NORMAL again takes the door to the state the leaf shows and clears the record; a faulted motor, or an isolation
switch turned with the leaf not closed and locked, faults the door; closed and locked it becomes ISOLATED (R51, R65,
R66, R73, R74, R75, R76, R112, R119). A pulled handle's trigger leaves the list as R109 states, and a NORMAL one its
record CLEARED and the others as they were, where the survey is COMPLETE already. The survey of a running part becomes
COMPLETE, by whatever command, exactly when no fitted door is in INIT any more, stays COMPLETE until a start, and with
it no HANDLE record is left ACTIVE whose door is neither in EMERGENCY nor in INIT (R85, R120). The berth record follows
the state that the door takes, every field of the door's record that its entry does not name stays, a FAULT is left by
none of these but an adoption or a pulled handle, and nothing outside what a report names changes (R51, R54, R80). It
rests on the model's choices of assumptions 4, 15 and 16. -/
def Obligations.ReportsAdoptHandleIsolationAndMotor : Prop :=
  (∀ (d : Door) (rep : Report) (s : State), s.dlc.awaitingReply = true → s.dlc.lastPolled = some d →
    (doorAt s d).state ≠ .absent →
    ∃ t, exec (.pollReply d rep) s = .next t ∧ reportFrame d rep s t ∧
      (doorAt t d).lastReport = some rep ∧ (doorAt t d).missCount = 0 ∧
      (rep.unitRestarted = true ∨ (doorAt s d).state = .init ∨
          ((doorAt s d).state = .isolated ∧ rep.handle = .normal ∧ rep.isolation = .normal) →
        (rep.handle = .normal → activeOf t.rlm.list (.handle d) = false) ∧
        (s.dlc.survey = .complete →
          t.rlm.list =
            if rep.handle = .pulled then triggered s.rlm.deviceTime s.berth.trainId (.handle d) s.rlm.list
            else handleCleared d s.rlm.list) ∧
        let heard := heardRecord rep (doorAt s d)
        let tm := s.geo.timers
        if rep.handle = .pulled then
          doorAt t d = heldRecord .emergency none heard ∧
          (activeOf t.rlm.list (.handle d) = true ∨ t.rlm.overflow = true) ∧
          t.rlm.overflow = (s.rlm.overflow || overflows s.rlm.list (.handle d)) ∧
          t.slp.flags.get (AttentionFlag.index .releaseNew) = true
        else
          t.rlm.overflow = s.rlm.overflow ∧
          if rep.isolation = .isolated then
            if rep.leaf = .closed ∧ rep.locked = true then doorAt t d = heldRecord .isolated none heard
            else doorFaulted .isolation heard s t d
          else if rep.motorFault = true then doorFaulted .motor heard s t d
          else if rep.leaf = .closed ∧ rep.locked = true then
            doorAt t d =
              if perFireActive s.rlm.list = true then unlockingRecord tm (lockedRecord heard) else lockedRecord heard
          else if rep.leaf = .opened then
            doorAt t d =
              if (doorAt s d).state ≠ .opened ∧ reClosed s d then
                closeWaitRecord tm heard.slowClose true { heard with command := some .hold }
              else openedRecord (some .hold) heard
          else
            doorAt t d =
              if (doorAt s d).state = .init ∧ timerIs .opening heard = true then heard else adoptingRecord tm heard) ∧
      (rep.unitRestarted = false → (doorAt s d).state ≠ .init → rep.handle = .pulled →
        if (doorAt s d).state = .emergency then
          doorAt t d = heardRecord rep (doorAt s d) ∧
          (t.rlm = s.rlm ∨ (s.dlc.survey = .running ∧ t.dlc.survey = .complete))
        else
          doorAt t d = heldRecord .emergency none (heardRecord rep (doorAt s d)) ∧
          (activeOf t.rlm.list (.handle d) = true ∨ t.rlm.overflow = true) ∧
          t.rlm.overflow = (s.rlm.overflow || overflows s.rlm.list (.handle d)) ∧
          t.slp.flags.get (AttentionFlag.index .releaseNew) = true ∧
          (s.dlc.survey = .complete →
            t.rlm.list = triggered s.rlm.deviceTime s.berth.trainId (.handle d) s.rlm.list) ∧
          (s.berth.state = .released → t.berth.enableSet.get d = false)) ∧
      (rep.unitRestarted = false → (doorAt s d).state = .emergency → rep.handle = .normal →
        activeOf t.rlm.list (.handle d) = false ∧ t.rlm.overflow = s.rlm.overflow ∧
        (s.dlc.survey = .complete → t.rlm.list = handleCleared d s.rlm.list) ∧
        (let heard := heardRecord rep (doorAt s d)
         doorAt t d =
          if rep.isolation = .isolated then
            if rep.leaf = .closed ∧ rep.locked = true then heldRecord .isolated none heard
            else heldRecord .fault (some .isolation) heard
          else if rep.motorFault = true then heldRecord .fault (some .motor) heard
          else if rep.leaf = .closed ∧ rep.locked = true then lockedRecord heard
          else if reClosed s d then
            closeWaitRecord s.geo.timers heard.slowClose true { heard with command := some .hold }
          else openedRecord (some .hold) heard)) ∧
      (rep.unitRestarted = false → (doorAt s d).state = .fault → rep.handle = .normal →
        doorAt t d = heardRecord rep (doorAt s d)) ∧
      (rep.unitRestarted = false → (doorAt s d).state ≠ .init → (doorAt s d).state ≠ .emergency →
        rep.handle = .normal → ((doorAt s d).state = .isolated → rep.isolation = .isolated) →
        t.rlm.overflow = s.rlm.overflow ∧ (s.dlc.survey = .complete → t.rlm.list = s.rlm.list)) ∧
      (rep.unitRestarted = false → (doorAt s d).state ≠ .init → (doorAt s d).state ≠ .emergency →
        (doorAt s d).state ≠ .fault → rep.handle = .normal →
        (rep.isolation = .isolated →
          if rep.leaf = .closed ∧ rep.locked = true then
            doorAt t d =
              if (doorAt s d).state = .isolated then heardRecord rep (doorAt s d)
              else heldRecord .isolated none (heardRecord rep (doorAt s d))
          else doorFaulted .isolation (heardRecord rep (doorAt s d)) s t d) ∧
        (rep.isolation = .normal → rep.motorFault = true →
          doorFaulted .motor (heardRecord rep (doorAt s d)) s t d))) ∧
  ∀ (c : Instr) (s t : State), exec c s = .next t → isStart c = false →
    (surveyInv s →
      (t.dlc.survey = .complete ↔
        s.dlc.survey = .complete ∨ ∀ d : Door, fitted t d = true → (doorAt t d).state ≠ .init)) ∧
    (s.dlc.survey = .complete → t.dlc.survey = .complete) ∧
    (s.dlc.survey = .running → t.dlc.survey = .complete →
      ∀ d : Door, activeOf t.rlm.list (.handle d) = true →
        (doorAt t d).state = .emergency ∨ (doorAt t d).state = .init)

/-- A door timer that is not the one running, or has time left, does not expire. One that has run out: the unlock
timeout faults an UNLOCKING door, the open timeout an OPENING or REOPENING one, or one in INIT as ADOPTION, and the
close timeout a CLOSING one, each with its cause and the DOOR_FAULT flag, every other field of its record as entry to
FAULT leaves it or as it was, and the door leaves the enable set, which may complete a close; no other door changes,
and of the marks its group's alone is set. A door that faults in INIT has its HANDLE record cleared (R51, R54, R66,
R68, R71, R76, R81, R84, R119). It rests on the model's choice of assumption 8. -/
def Obligations.DoorTimeoutsFaultTheDoor : Prop :=
  ∀ (d : Door) (s : State) (c : Instr) (kind : StateTimerKind) (cause : DoorFaultCause) (st : DoorState),
    (c = .unlockTimeoutExpiry d ∧ kind = .unlock ∧ cause = .unlockTimeout ∧ st = .unlocking) ∨
    (c = .openTimeoutExpiry d ∧ kind = .opening ∧ cause = .openTimeout ∧ (st = .opening ∨ st = .reopening)) ∨
    (c = .openTimeoutExpiry d ∧ kind = .opening ∧ cause = .adoption ∧ st = .init) ∨
    (c = .closeTimeoutExpiry d ∧ kind = .close ∧ cause = .closeTimeout ∧ st = .closing) →
    ∃ t, exec c s = .next t ∧ (∀ e : Door, e ≠ d → doorAt t e = doorAt s e) ∧
      ((doorAt s d).stateTimer ≠ some ⟨kind, 0⟩ → keepsBut [] s t) ∧
      ((doorAt s d).stateTimer = some ⟨kind, 0⟩ → (doorAt s d).state = st →
        doorFaulted cause (doorAt s d) s t d ∧ t.dlc.marks = s.dlc.marks.set (doorGroup d) true ∧
        (s.berth.state = .released → t.berth.enableSet.get d = false) ∧ berthFollowsDoor .fault s t d ∧
        (kind ≠ .opening ∨ s.dlc.survey = .complete ∨ (surveyInv s ∧ st ≠ .init) → keepsPart .survey s t) ∧
        (kind ≠ .opening ∨ ((s.dlc.survey = .complete ∨ surveyInv s) ∧ st ≠ .init) → keepsPart .releases s t) ∧
        (st = .init → s.dlc.survey = .complete →
          t.rlm = { s.rlm with list := handleCleared d s.rlm.list } ∧
          t.dlc.releaseInForce = perFireActive s.rlm.list) ∧
        keepsBut [.berth, .doors, .marks, .survey, .views, .releases, .test, .secure, .summary, .flags] s t)

/-- The timers of a close: at the end of the warning lead the door starts CLOSING, by SLOW_CLOSE_LOCK where slow close
is set or the doorway channel is not ACTIVE, or waits for an occupied doorway; the doorway wait limit blocks it with
cause DOORWAY; the reopen hold leads to a new CLOSE_WAIT; and a warning phase gives way to the other. In each the
fields of the record that the entry does not name stay, slow close, close pending and the last report among them, and a
new state sets the group's mark. A timer or phase that does not run, or has time left, does not end (R70, R71, R72,
R81, R82, R83, R84). It rests on the model's choice of assumption 8. -/
def Obligations.CloseSequenceTimers : Prop :=
  ∀ (d : Door) (s : State),
    (∃ t, exec (.closeWarningLeadExpiry d) s = .next t ∧
      (∀ e : Door, e ≠ d → doorAt t e = doorAt s e) ∧
      if (doorAt s d).stateTimer = some ⟨.lead, 0⟩ ∧ (doorAt s d).state = .closeWait then
        if (channelAt s (doorwayChannel d)).state = .active ∧ (channelAt s (doorwayChannel d)).occupied = true then
          doorAt t d = { doorAt s d with stateTimer := some ⟨.doorwayWait, s.geo.timers.doorwayWaitLimit⟩ } ∧
          keepsBut [.doors] s t
        else
          doorAt t d = closingRecord s.geo.timers
            (if (doorAt s d).slowClose = true ∨ (channelAt s (doorwayChannel d)).state ≠ .active then
              .slowCloseLock else .closeLock) (doorAt s d) ∧
          t.dlc.marks = s.dlc.marks.set (doorGroup d) true ∧
          keepsBut [.doors, .marks, .views, .secure] s t
      else keepsBut [] s t) ∧
    (∃ t, exec (.doorwayWaitLimitExpiry d) s = .next t ∧ (∀ e : Door, e ≠ d → doorAt t e = doorAt s e) ∧
      if (doorAt s d).stateTimer = some ⟨.doorwayWait, 0⟩ ∧ (doorAt s d).state = .closeWait then
        doorAt t d = blockedRecord .doorway (doorAt s d) ∧ t.dlc.marks = s.dlc.marks.set (doorGroup d) true ∧
        t.slp.flags = s.slp.flags.set (AttentionFlag.index .closeBlocked) true ∧
        keepsBut [.doors, .marks, .views, .secure, .flags] s t
      else keepsBut [] s t) ∧
    (∃ t, exec (.reopenHoldExpiry d) s = .next t ∧ (∀ e : Door, e ≠ d → doorAt t e = doorAt s e) ∧
      if (doorAt s d).stateTimer = some ⟨.reopenHold, 0⟩ ∧ (doorAt s d).state = .reopening then
        closeWaitEntered (doorAt s d).slowClose (doorAt s d).closePending s t d ∧
        t.dlc.marks = s.dlc.marks.set (doorGroup d) true ∧ keepsBut [.doors, .marks, .views, .secure] s t
      else keepsBut [] s t) ∧
    (∃ t, exec (.warningOnExpiry d) s = .next t ∧ (∀ e : Door, e ≠ d → doorAt t e = doorAt s e) ∧
      keepsBut [.doors] s t ∧
      doorAt t d =
        if (doorAt s d).warningPhase = .on ∧ (doorAt s d).warningTimer = some 0 then
          { doorAt s d with warningPhase := .off, warningTimer := some s.geo.timers.warningOff }
        else doorAt s d) ∧
    ∃ t, exec (.warningOffExpiry d) s = .next t ∧ (∀ e : Door, e ≠ d → doorAt t e = doorAt s e) ∧
      keepsBut [.doors] s t ∧
      doorAt t d =
        if (doorAt s d).warningPhase = .off ∧ (doorAt s d).warningTimer = some 0 then
          { doorAt s d with warningPhase := .on, warningTimer := some s.geo.timers.warningOn }
        else doorAt s d

/-! ## Probes (chapter 5) -/

/-- CONVERSION_END of the channel in flight, and of no other: the scan goes round to the next channel not in OFF. In
OFF the sample is discarded; else the sample and the tracking condition are stored and the rail count follows the
rails, 8 at a rail making a channel in SETTLING, LEARNING or ACTIVE FAULT with the SENSING_FAULT flag, and fewer being
handled like any other sample. In SETTLING the next state is LEARNING; in LEARNING the sixteenth tracked sample makes
the channel ACTIVE with the sum as its baseline; in ACTIVE an unlike sample is counted and at N_on or N_off changes
occupied, and a tracked clear sample moves the baseline; every other field of the channel's record stays. No other
channel changes, and no door but the channel's own: a GAP channel's entry to ACTIVE clears the gap bypass, a doorway no
longer occupied ends the wait for it, and one newly occupied reverses a close, or blocks it after three reversals; the
mark of a changed door's group is set and no other, and no flag but those named (R70, R71, R72, R79, R84, R88, R91 to
R97, R102). The tracking condition holds, for GAP_k, exactly with the berth EMPTY and door k CLOSED_LOCKED or ISOLATED,
and for DOORWAY_k exactly with door k CLOSED_LOCKED (R90). It rests on the model's choices of assumptions 4 and 25. -/
def Obligations.ConversionsJudgeSamples : Prop :=
  (∀ (s : State) (d : Door), copiesInv s →
    (trackingHolds s (gapChannel d) = true ↔
      s.berth.state = .empty ∧ ((doorAt s d).state = .closedLocked ∨ (doorAt s d).state = .isolated)) ∧
    (trackingHolds s (doorwayChannel d) = true ↔ (doorAt s d).state = .closedLocked)) ∧
  (∀ (c : Channel) (x : Sample) (s : State), s.ssc.inFlight ≠ some c →
    ∃ t, exec (.conversionEnd c x) s = .next t ∧ keepsBut [] s t) ∧
  ∀ (c : Channel) (x : Sample) (s : State), s.ssc.inFlight = some c →
    ∃ t, exec (.conversionEnd c x) s = .next t ∧
    t.ssc.lastConverted = some c ∧
    goesRound (fun e : Channel => (channelAt t e).state ≠ .off) (some c) t.ssc.inFlight ∧
    (∀ e : Channel, e ≠ c → channelAt t e = channelAt s e) ∧
    (∀ d : Door, d ≠ channelDoor c → doorAt t d = doorAt s d) ∧
    keepsBut [.channels, .doors, .marks, .views, .secure, .flags] s t ∧
    channelActsOnDoor c s t ∧ marksFollow s t ∧
    t.slp.flags =
      (if (channelAt s c).state ≠ .fault ∧ (channelAt t c).state = .fault then
        s.slp.flags.set (AttentionFlag.index .sensingFault) true
      else if (doorAt s (channelDoor c)).state ≠ .closeBlocked ∧ (doorAt t (channelDoor c)).state = .closeBlocked then
        s.slp.flags.set (AttentionFlag.index .closeBlocked) true
      else s.slp.flags) ∧
    ((channelAt s c).state = .off → channelAt t c = channelAt s c) ∧
    ∀ heard : ChannelRecord,
    heard = { channelAt s c with
      lastSample := some x, tracking := trackingHolds s c,
      railCount := if x.val = 0 ∨ x.val = 1023 then min 8 ((channelAt s c).railCount + 1) else 0 } →
    ((channelAt s c).state ≠ .off → (channelAt s c).state ≠ .fault →
      (x.val = 0 ∨ x.val = 1023) → 7 ≤ (channelAt s c).railCount →
      channelAt t c = { heard with state := .fault, occupied := false, consecutive := 0 } ∧
      t.slp.flags.get (AttentionFlag.index .sensingFault) = true) ∧
    ((channelAt s c).state = .fault → channelAt t c = heard) ∧
    (¬((x.val = 0 ∨ x.val = 1023) ∧ 7 ≤ (channelAt s c).railCount) →
      ((channelAt s c).state = .settling → channelAt t c = { heard with state := .learning }) ∧
      ((channelAt s c).state = .learning → trackingHolds s c = false → channelAt t c = heard) ∧
      ((channelAt s c).state = .learning → trackingHolds s c = true → (channelAt s c).learnCount ≠ 15 →
        channelAt t c = { heard with
          learnSum := (channelAt s c).learnSum + x.val, learnCount := (channelAt s c).learnCount + 1 }) ∧
      ((channelAt s c).state = .learning → trackingHolds s c = true → (channelAt s c).learnCount = 15 →
        channelAt t c = { heard with
          state := .active, baseline := (channelAt s c).learnSum + x.val, learnSum := 0, learnCount := 0,
          occupied := false, consecutive := 0 }) ∧
      ((channelAt s c).state = .active → (channelAt s c).consecutive < 15 →
        channelAt t c = { heard with
          occupied := (channelAt t c).occupied, consecutive := (channelAt t c).consecutive,
          baseline := (channelAt t c).baseline } ∧
        (let far := decide (16 * (s.geo.sensing.get c).threshold <
            (16 * (x.val : Int) - (channelAt s c).baseline).natAbs)
         let limit := if (channelAt s c).occupied = true then (s.geo.sensing.get c).nOff
           else (s.geo.sensing.get c).nOn
         if far = (channelAt s c).occupied then
           (channelAt t c).occupied = (channelAt s c).occupied ∧ (channelAt t c).consecutive = 0
         else if limit ≤ (channelAt s c).consecutive + 1 then
           (channelAt t c).occupied = far ∧ (channelAt t c).consecutive = 0
         else
           (channelAt t c).occupied = (channelAt s c).occupied ∧
           (channelAt t c).consecutive = (channelAt s c).consecutive + 1) ∧
        (channelAt t c).baseline =
          (if 16 * (s.geo.sensing.get c).threshold <
                (16 * (x.val : Int) - (channelAt s c).baseline).natAbs ∨
              (channelAt s c).occupied = true ∨ trackingHolds s c = false then
            (channelAt s c).baseline
          else
            max 0 (min 16368 ((channelAt s c).baseline +
              (16 * (x.val : Int) - (channelAt s c).baseline).tdiv 64)))))

/-! ## Timers of the berth, the secure logic and the links (chapters 3, 7, 9, 10) -/

/-- The stop settle time's expiry. In ARRIVING with a heading: a NORMAL measuring reader is checked (edge seen is
cleared; after a reversal two quiet checks are needed) and a quiet one with a capture, or with a version 2 train's own
standing report, stops the berth with the reader's count as stop count; a reader in FAULT leaves it to the protocol
version and the reports. The berth then becomes STOPPED with its alignment computed, and a departure quiet time that
ran in ARRIVING stops; otherwise the time runs again. In ARRIVING without a heading it runs again; in CREEP it decides
quiet, by a check of the measuring reader where that is NORMAL, and runs again; a time that does not run, or has time
left with no check owed, does not expire (R37, R38, R56, R58). A step of the measuring reader and the check that
reaches it together: the step first, the check reads edge seen as yes and clears it, and the finding is not quiet; the
check first, it reads and clears what the earlier steps left, and the step sets edge seen again (R21). It rests on the
model's choices of assumptions 8, 14 and 29. -/
def Obligations.StopSettleDecidesStopping : Prop :=
  ∀ s : State,
    (¬settleExpires s → ∃ t, exec .stopSettleExpiry s = .next t ∧ keepsBut [] s t) ∧
    (settleExpires s → s.berth.state = .arriving → s.berth.heading = none →
      ∃ t, exec .stopSettleExpiry s = .next t ∧ t.berth = { s.berth with edgeClear := false } ∧
        settleStarted s t ∧ t.departureQuiet = s.departureQuiet ∧
        keepsBut [.berth] s t) ∧
    (∀ h : End, settleExpires s → s.berth.state = .arriving → s.berth.heading = some h →
      ∃ t, exec .stopSettleExpiry s = .next t ∧
        (∀ e : End, e ≠ h → readerAt t e = readerAt s e) ∧
        readerAt t h =
          (if (readerAt s h).faultState = .normal then { readerAt s h with edgeSeen := false } else readerAt s h) ∧
        (let standing := s.berth.trainMotion = some .standing ∧ s.berth.trainReportedFrontX.isSome = true
         let normal := (readerAt s h).faultState = .normal
         if (normal ∧ (readerAt s h).edgeSeen = false ∧
              ((readerAt s h).directionChange = false ∨ s.berth.edgeClear = true) ∧
              ((readerAt s h).captureValid = true ∨ (s.berth.protocolVersion = some .v2 ∧ standing))) ∨
            (¬normal ∧ (s.berth.protocolVersion = some .v1 ∨ (s.berth.protocolVersion = some .v2 ∧ standing))) then
          t.berth.state = .stopped ∧ settleStopped t ∧
          t.departureQuiet =
            (if s.readerA.beam = .clear ∧ s.readerB.beam = .clear ∧ s.tlp.session = .none then none
            else s.departureQuiet) ∧
          t.berth = align s.geo h (readerAt t h) { s.berth with
            state := .stopped
            stopCount := if normal then some (readerAt s h).count else none
            edgeClear := if normal then true else false } ∧
          t.mac.berthView = .stopped ∧ keepsBut [.readers, .berth, .views, .test, .secure] s t
         else
          t.berth = { s.berth with edgeClear := if normal then !(readerAt s h).edgeSeen else false } ∧
          settleStarted s t ∧ t.departureQuiet = s.departureQuiet ∧
          keepsBut [.readers, .berth] s t)) ∧
    (∀ h : End, settleExpires s → s.berth.state = .creep → s.berth.heading = some h →
      ∃ t, exec .stopSettleExpiry s = .next t ∧
        (∀ e : End, e ≠ h → readerAt t e = readerAt s e) ∧
        readerAt t h =
          (if (readerAt s h).faultState = .normal then { readerAt s h with edgeSeen := false } else readerAt s h) ∧
        t.berth = { s.berth with
          quiet :=
            if (readerAt s h).faultState = .normal then !(readerAt s h).edgeSeen
            else s.berth.trainMotion != some .moving || s.tlp.session == .none } ∧
        settleStarted s t ∧ t.departureQuiet = s.departureQuiet ∧ keepsBut [.readers, .berth] s t) ∧
    ∀ (h dir : End) (lines : LineState), s.stopSettle = some 0 → s.berth.heading = some h →
      s.berth.state = .arriving ∨ s.berth.state = .creep → countedStep h dir lines s →
      (∃ t, exec (.lineTransition h lines) s = .next t ∧ (readerAt t h).edgeSeen = true ∧
        ∃ u, exec .stopSettleExpiry t = .next u ∧ readerAt u h = { readerAt t h with edgeSeen := false } ∧
          u.berth = (if s.berth.state = .arriving then { s.berth with edgeClear := false }
            else { s.berth with quiet := false }) ∧
          settleStarted s u ∧ keepsBut [.readers, .berth] s u) ∧
      ∃ t, exec .stopSettleExpiry s = .next t ∧ readerAt t h = { readerAt s h with edgeSeen := false } ∧
        ∃ u, exec (.lineTransition h lines) t = .next u ∧ (readerAt u h).edgeSeen = true ∧
          (readerAt u h).count = (readerAt s h).count + (if dir = (readerAt s h).sense then 1 else -1)

/-- The departure quiet time's expiry makes a DEPARTING berth without a session, and an ARRIVING one with both beams
clear and no session, EMPTY, with both readers zeroed, their line states, beams, health and faults kept (R30, R58, R59).
The confirm timer's expiry asserts secure, stops the timer and gives the
permit of a DISPATCHING berth (R132, R134). A timer that does not run, or has time left, does not expire. At each
second device time counts on by one, from 4,294,967,295 to 0 (R106). It rests on the model's choices of assumptions 5,
8 and 14. -/
def Obligations.QuietConfirmAndSecondTimersExpire : Prop :=
  (∀ s : State,
    (s.departureQuiet ≠ some 0 → ∃ t, exec .departureQuietExpiry s = .next t ∧ keepsBut [] s t) ∧
    (s.departureQuiet = some 0 → s.tlp.session = .none →
      s.berth.state = .departing ∨
        (s.berth.state = .arriving ∧ s.readerA.beam = .clear ∧ s.readerB.beam = .clear) →
      ∃ t, exec .departureQuietExpiry s = .next t ∧ berthEmptied s.readerA s.readerB s t)) ∧
  ∀ s : State,
    (∃ t, exec .deviceTimeTick s = .next t ∧
      t.rlm = { s.rlm with
        deviceTime := if s.rlm.deviceTime = 4294967295 then 0 else s.rlm.deviceTime + 1, secondTimer := 100 } ∧
      t.dlc.releaseInForce = s.dlc.releaseInForce ∧ keepsBut [.releases] s t) ∧
    (s.scl.confirm ≠ some 0 → ∃ t, exec .secureConfirmExpiry s = .next t ∧ keepsBut [] s t) ∧
    (s.scl.confirm = some 0 →
      ∃ t, exec .secureConfirmExpiry s = .next t ∧
        t.scl = { s.scl with
          secure := true, confirm := none, permit := s.scl.input.berthState == .dispatching } ∧
        keepsBut [.secure] s t)

/-- The supervision of the three links: each expiry makes its link LOST and stops that port's timers. The train link's
ends an open session, which keeps its version, train id and summary, marks the berth and sets TRAIN_LINK_LOST; the
interlocking link's clears the authorisation and sets IL_LINK_LOST; the station link's changes nothing else (R47, R58,
R60, R154, R166, R170). The three periodic reports: at its timer's expiry a port sends one report with the values it
holds, under its next report sequence, and its timer runs anew; nothing else changes (R162, R168, R173, R176). A timer
that does not run, or that an event taken before has started anew, does not expire (R164, R169, R175). It rests on the
model's choices of assumptions 6 and 8. -/
def Obligations.LinkTimersActAtTheirExpiry : Prop :=
  (∀ s : State,
    (s.tlp.supervision = some 0 →
      ∃ t, exec .trainLinkSupervisionExpiry s = .next t ∧ t.tlp.link = .lost ∧ t.tlp.supervision = none ∧
        t.ilp.link = s.ilp.link ∧ t.ilp.supervision = s.ilp.supervision ∧ t.slp.link = s.slp.link ∧
        t.slp.supervision = s.slp.supervision ∧ t.tlp.sessionVersion = s.tlp.sessionVersion ∧
        t.tlp.sessionTrainId = s.tlp.sessionTrainId ∧
        if s.tlp.session = .opened then
          t.tlp.session = .none ∧ t.tlp.statusTimer = none ∧
          t.slp.flags = s.slp.flags.set (AttentionFlag.index .trainLinkLost) true ∧
          t.berth = (if s.berth.state = .empty then s.berth else { s.berth with linkLost := true }) ∧
          settleKept s t ∧
          t.departureQuiet =
            (if s.berth.state = .departing ∨
                (s.berth.state = .arriving ∧ s.readerA.beam = .clear ∧ s.readerB.beam = .clear) then
              some Config.departureQuiet
            else s.departureQuiet) ∧
          keepsBut [.links, .berth, .session, .flags] s t
        else keepsBut [.links] s t) ∧
    (s.ilp.supervision = some 0 →
      ∃ t, exec .ilLinkSupervisionExpiry s = .next t ∧ t.ilp.link = .lost ∧ t.ilp.supervision = none ∧
        t.ilp.reportTimer = none ∧ t.tlp.link = s.tlp.link ∧ t.tlp.supervision = s.tlp.supervision ∧
        t.slp.link = s.slp.link ∧ t.slp.supervision = s.slp.supervision ∧
        t.slp.flags = s.slp.flags.set (AttentionFlag.index .ilLinkLost) true ∧
        t.berth = { s.berth with authorisation := none } ∧ settleKept s t ∧
        t.departureQuiet = s.departureQuiet ∧ keepsBut [.links, .berth, .flags] s t) ∧
    (s.slp.supervision = some 0 →
      ∃ t, exec .stationLinkSupervisionExpiry s = .next t ∧ t.slp.link = .lost ∧ t.slp.supervision = none ∧
        t.slp.statusTimer = none ∧ t.tlp.link = s.tlp.link ∧ t.tlp.supervision = s.tlp.supervision ∧
        t.ilp.link = s.ilp.link ∧ t.ilp.supervision = s.ilp.supervision ∧ keepsBut [.links] s t) ∧
    (s.tlp.supervision ≠ some 0 → ∃ t, exec .trainLinkSupervisionExpiry s = .next t ∧ keepsBut [] s t) ∧
    (s.ilp.supervision ≠ some 0 → ∃ t, exec .ilLinkSupervisionExpiry s = .next t ∧ keepsBut [] s t) ∧
    (s.slp.supervision ≠ some 0 → ∃ t, exec .stationLinkSupervisionExpiry s = .next t ∧ keepsBut [] s t)) ∧
  ∀ s : State, s.restartDue = false →
    (s.tlp.session = .opened → s.tlp.statusTimer = some 0 →
      ∃ t, exec .berthStatusTimerExpiry s = .next t ∧
        t.sent = [.frame .train (s.tlp.sessionVersion.getD .v2) s.tlp.reportSeq
          (.berthStatus s.tlp.sessionTrainId s.tlp.values)] ∧
        t.tlp = { s.tlp with statusTimer := some 20, reportSeq := s.tlp.reportSeq + 1 } ∧
        t.ilp = s.ilp ∧ t.slp = s.slp ∧ keepsBut [] s t) ∧
    (s.ilp.link = .up → s.ilp.reportTimer = some 0 →
      ∃ t, exec .platformStateTimerExpiry s = .next t ∧
        t.sent = [.frame .interlocking .v2 s.ilp.reportSeq (.platformState s.ilp.values)] ∧
        t.ilp = { s.ilp with reportTimer := some 20, reportSeq := s.ilp.reportSeq + 1 } ∧
        t.tlp = s.tlp ∧ t.slp = s.slp ∧ keepsBut [] s t) ∧
    (s.slp.link = .up → s.slp.statusTimer = some 0 →
      ∃ t, exec .stationStatusTimerExpiry s = .next t ∧
        t.sent = [.frame .station .v2 s.slp.reportSeq
          (.stationStatus s.slp.flags s.slp.enables s.slp.values)] ∧
        t.slp = { s.slp with statusTimer := some 100, reportSeq := s.slp.reportSeq + 1 } ∧
        t.tlp = s.tlp ∧ t.ilp = s.ilp ∧ keepsBut [] s t) ∧
    ∀ c : Instr,
      (c = .berthStatusTimerExpiry ∧ s.tlp.statusTimer ≠ some 0) ∨
        (c = .platformStateTimerExpiry ∧ s.ilp.reportTimer ≠ some 0) ∨
        (c = .stationStatusTimerExpiry ∧ s.slp.statusTimer ≠ some 0) →
      ∃ t, exec c s = .next t ∧ t.sent = [] ∧ t.tlp = s.tlp ∧ t.ilp = s.ilp ∧ t.slp = s.slp ∧ keepsBut [] s t

/-! ## Starts (chapters 1 to 10) -/

/-- COLD_START: the GEO is reloaded from the store, the retained memory holds the POWER_ON record alone, then a record
for each line found asserted, every door and channel is as its chapter's cold start gives it, the mode is LOCAL, or FIRE
with the FIRE line asserted, every enable is on, and RELEASE_NEW is set by a line found asserted alone (R12, R86, R105,
R125, R152, R170). WARM_RESTART and SUPPLY_DIP: the GEO, the mode (corrected by the FIRE line and the MAINTENANCE key),
the enables, every cut-out and gap bypass and device time are kept; the restart count advances to at most 255 with its
cause, by one more for a dip that cuts off a restart begun by RESTART; the frames that wait are discarded; TRAIN records
and those of lines no longer asserted are cleared, and a line found asserted without an ACTIVE record is a trigger,
which sets RELEASE_NEW and, where it finds no room, OVERFLOW; every flag is clear otherwise, but for a reader found in
FAULT (R12, R26, R86, R109, R105, R126, R152, R170, R174). With no fitted door the survey check follows at once, so that
case is said of the rest only. It rests on the model's choices of assumptions 4, 5 and 7. -/
def Obligations.StartsPowerOnOrKeepRetainedState : Prop :=
  (∀ (l : Levels) (s : State), ∃ t, exec (.coldStart l) s = .next t ∧ started l s t ∧
    t.geo = s.store ∧ t.store = s.store ∧
    (∀ d : Door, doorAt t d = DoorRecord.cold (s.store.doors.get d).fitted) ∧
    (∀ c : Channel, channelAt t c =
      ChannelRecord.start ((s.store.sensing.get c).enabled && (s.store.doors.get (channelDoor c)).fitted)) ∧
    t.rlm =
      { list :=
          triggeredAll 0 none
            ((if l.fireLine then [.fire] else []) ++ (if l.perLine then [.per] else []))
            [⟨1, .powerOn, none, .cleared, 0, 0, 1⟩]
        overflow := false, lastCause := .powerOn, warmCount := 0, deviceTime := 0, secondTimer := 100,
        perLine := l.perLine, fireLine := l.fireLine } ∧
    t.mac.mode = (if l.fireLine then .fire else .localMode) ∧
    t.slp.flags.get (AttentionFlag.index .releaseNew) = (l.fireLine || l.perLine) ∧
    t.slp.flags.get (AttentionFlag.index .overflow) = false ∧ ∀ i : Fin 10, t.slp.enables.get i = true) ∧
  ∀ (l : Levels) (s : State) (c : Instr) (cause : RestartCause),
    (c = .warmRestart l ∧ cause = .stationRestart) ∨ (c = .supplyDip l ∧ cause = .supplyDip) →
    let srcs : List ReleaseSource :=
      (if l.fireLine && !activeOf s.rlm.list .fire then [.fire] else []) ++
        (if l.perLine && !activeOf s.rlm.list .per then [.per] else [])
    let kept : List ReleaseRecord :=
      s.rlm.list.map fun r =>
        match r.source with
        | .train _ => { r with state := .cleared }
        | .per => if l.perLine then r else { r with state := .cleared }
        | .fire => if l.fireLine then r else { r with state := .cleared }
        | .handle _ => r
        | .powerOn => r
    let full := overflowsAny s.rlm.deviceTime none srcs kept
    ∃ t, exec c s = .next t ∧ started l s t ∧ t.geo = s.geo ∧ t.store = s.store ∧
      (∀ d : Door, doorAt t d =
        { DoorRecord.cold (fitted s d) with
          cutOut := (doorAt s d).cutOut, gapBypass := (doorAt s d).gapBypass }) ∧
      (∀ ch : Channel, channelAt t ch =
        ChannelRecord.start ((s.geo.sensing.get ch).enabled && fitted s (channelDoor ch))) ∧
      t.rlm.lastCause = cause ∧ t.rlm.warmCount =
        min 255 (s.rlm.warmCount + (if cause = .supplyDip ∧ s.restartDue = true then 2 else 1)) ∧
      t.rlm.deviceTime = s.rlm.deviceTime ∧ t.rlm.secondTimer = s.rlm.secondTimer ∧
      t.rlm.perLine = l.perLine ∧ t.rlm.fireLine = l.fireLine ∧
      t.rlm.overflow = (s.rlm.overflow || full) ∧
      t.slp.flags.get (AttentionFlag.index .releaseNew) = !srcs.isEmpty ∧
      t.slp.flags.get (AttentionFlag.index .overflow) = full ∧
      ((∃ d : Door, fitted s d = true) → t.rlm.list = triggeredAll s.rlm.deviceTime none srcs kept) ∧
      t.mac.mode =
        (if l.fireLine then .fire
        else if s.mac.mode = .fire then .localMode
        else if s.mac.mode = .maintenance ∧ l.maintenanceKey = false then .localMode
        else s.mac.mode) ∧
      t.slp.enables = s.slp.enables

end
end

