-- ==== Sys2Proof/Laws/State.lean ====
section
/-! SUPPORT. What each named update of the state writes and leaves: one lemma per field per update. -/

namespace Sys2Proof.Machine

/-! ### Timers -/

/-- A timer is due exactly where it runs with no time left (assumption 8). -/
theorem due_iff (t : Timer) : due t = true ↔ t = some 0 := by
  rcases t with _ | _ | n <;> simp [due]

/-! ### startSettle -/

@[simp] theorem startSettle_geo (s : State) : (startSettle s).geo = s.geo := rfl
@[simp] theorem startSettle_store (s : State) : (startSettle s).store = s.store := rfl
@[simp] theorem startSettle_readerA (s : State) : (startSettle s).readerA = s.readerA := rfl
@[simp] theorem startSettle_readerB (s : State) : (startSettle s).readerB = s.readerB := rfl
@[simp] theorem startSettle_berth (s : State) : (startSettle s).berth = s.berth := rfl
@[simp] theorem startSettle_stopSettle (s : State) : (startSettle s).stopSettle = some s.geo.timers.stopSettle := rfl
@[simp] theorem startSettle_checkOwed (s : State) : (startSettle s).checkOwed = none := rfl
@[simp] theorem startSettle_departureQuiet (s : State) : (startSettle s).departureQuiet = s.departureQuiet := rfl
@[simp] theorem startSettle_dlc (s : State) : (startSettle s).dlc = s.dlc := rfl
@[simp] theorem startSettle_ssc (s : State) : (startSettle s).ssc = s.ssc := rfl
@[simp] theorem startSettle_rlm (s : State) : (startSettle s).rlm = s.rlm := rfl
@[simp] theorem startSettle_scl (s : State) : (startSettle s).scl = s.scl := rfl
@[simp] theorem startSettle_mac (s : State) : (startSettle s).mac = s.mac := rfl
@[simp] theorem startSettle_tlp (s : State) : (startSettle s).tlp = s.tlp := rfl
@[simp] theorem startSettle_ilp (s : State) : (startSettle s).ilp = s.ilp := rfl
@[simp] theorem startSettle_slp (s : State) : (startSettle s).slp = s.slp := rfl
@[simp] theorem startSettle_sent (s : State) : (startSettle s).sent = s.sent := rfl
@[simp] theorem startSettle_summaryDue (s : State) : (startSettle s).summaryDue = s.summaryDue := rfl
@[simp] theorem startSettle_restartDue (s : State) : (startSettle s).restartDue = s.restartDue := rfl
@[simp] theorem startSettle_pending (s : State) : (startSettle s).pending = s.pending := rfl

/-! ### stopSettleTime -/

@[simp] theorem stopSettleTime_geo (s : State) : (stopSettleTime s).geo = s.geo := rfl
@[simp] theorem stopSettleTime_store (s : State) : (stopSettleTime s).store = s.store := rfl
@[simp] theorem stopSettleTime_readerA (s : State) : (stopSettleTime s).readerA = s.readerA := rfl
@[simp] theorem stopSettleTime_readerB (s : State) : (stopSettleTime s).readerB = s.readerB := rfl
@[simp] theorem stopSettleTime_berth (s : State) : (stopSettleTime s).berth = s.berth := rfl
@[simp] theorem stopSettleTime_stopSettle (s : State) : (stopSettleTime s).stopSettle = none := rfl
@[simp] theorem stopSettleTime_checkOwed (s : State) : (stopSettleTime s).checkOwed = none := rfl
@[simp] theorem stopSettleTime_departureQuiet (s : State) : (stopSettleTime s).departureQuiet = s.departureQuiet := rfl
@[simp] theorem stopSettleTime_dlc (s : State) : (stopSettleTime s).dlc = s.dlc := rfl
@[simp] theorem stopSettleTime_ssc (s : State) : (stopSettleTime s).ssc = s.ssc := rfl
@[simp] theorem stopSettleTime_rlm (s : State) : (stopSettleTime s).rlm = s.rlm := rfl
@[simp] theorem stopSettleTime_scl (s : State) : (stopSettleTime s).scl = s.scl := rfl
@[simp] theorem stopSettleTime_mac (s : State) : (stopSettleTime s).mac = s.mac := rfl
@[simp] theorem stopSettleTime_tlp (s : State) : (stopSettleTime s).tlp = s.tlp := rfl
@[simp] theorem stopSettleTime_ilp (s : State) : (stopSettleTime s).ilp = s.ilp := rfl
@[simp] theorem stopSettleTime_slp (s : State) : (stopSettleTime s).slp = s.slp := rfl
@[simp] theorem stopSettleTime_sent (s : State) : (stopSettleTime s).sent = s.sent := rfl
@[simp] theorem stopSettleTime_summaryDue (s : State) : (stopSettleTime s).summaryDue = s.summaryDue := rfl
@[simp] theorem stopSettleTime_restartDue (s : State) : (stopSettleTime s).restartDue = s.restartDue := rfl
@[simp] theorem stopSettleTime_pending (s : State) : (stopSettleTime s).pending = s.pending := rfl

/-! ### restartSettle -/

@[simp] theorem restartSettle_geo (e : End) (s : State) : (restartSettle e s).geo = s.geo := rfl
@[simp] theorem restartSettle_store (e : End) (s : State) : (restartSettle e s).store = s.store := rfl
@[simp] theorem restartSettle_readerA (e : End) (s : State) : (restartSettle e s).readerA = s.readerA := rfl
@[simp] theorem restartSettle_readerB (e : End) (s : State) : (restartSettle e s).readerB = s.readerB := rfl
@[simp] theorem restartSettle_berth (e : End) (s : State) : (restartSettle e s).berth = s.berth := rfl
@[simp] theorem restartSettle_stopSettle (e : End) (s : State) : (restartSettle e s).stopSettle = some s.geo.timers.stopSettle := rfl
@[simp] theorem restartSettle_checkOwed (e : End) (s : State) :
    (restartSettle e s).checkOwed = if measuring s == some e && due (settleTimer s) then some e else none := rfl
@[simp] theorem restartSettle_departureQuiet (e : End) (s : State) : (restartSettle e s).departureQuiet = s.departureQuiet := rfl
@[simp] theorem restartSettle_dlc (e : End) (s : State) : (restartSettle e s).dlc = s.dlc := rfl
@[simp] theorem restartSettle_ssc (e : End) (s : State) : (restartSettle e s).ssc = s.ssc := rfl
@[simp] theorem restartSettle_rlm (e : End) (s : State) : (restartSettle e s).rlm = s.rlm := rfl
@[simp] theorem restartSettle_scl (e : End) (s : State) : (restartSettle e s).scl = s.scl := rfl
@[simp] theorem restartSettle_mac (e : End) (s : State) : (restartSettle e s).mac = s.mac := rfl
@[simp] theorem restartSettle_tlp (e : End) (s : State) : (restartSettle e s).tlp = s.tlp := rfl
@[simp] theorem restartSettle_ilp (e : End) (s : State) : (restartSettle e s).ilp = s.ilp := rfl
@[simp] theorem restartSettle_slp (e : End) (s : State) : (restartSettle e s).slp = s.slp := rfl
@[simp] theorem restartSettle_sent (e : End) (s : State) : (restartSettle e s).sent = s.sent := rfl
@[simp] theorem restartSettle_summaryDue (e : End) (s : State) : (restartSettle e s).summaryDue = s.summaryDue := rfl
@[simp] theorem restartSettle_restartDue (e : End) (s : State) : (restartSettle e s).restartDue = s.restartDue := rfl
@[simp] theorem restartSettle_pending (e : End) (s : State) : (restartSettle e s).pending = s.pending := rfl

/-! ### startQuiet -/

@[simp] theorem startQuiet_geo (s : State) : (startQuiet s).geo = s.geo := rfl
@[simp] theorem startQuiet_store (s : State) : (startQuiet s).store = s.store := rfl
@[simp] theorem startQuiet_readerA (s : State) : (startQuiet s).readerA = s.readerA := rfl
@[simp] theorem startQuiet_readerB (s : State) : (startQuiet s).readerB = s.readerB := rfl
@[simp] theorem startQuiet_berth (s : State) : (startQuiet s).berth = s.berth := rfl
@[simp] theorem startQuiet_stopSettle (s : State) : (startQuiet s).stopSettle = s.stopSettle := rfl
@[simp] theorem startQuiet_checkOwed (s : State) : (startQuiet s).checkOwed = s.checkOwed := rfl
@[simp] theorem startQuiet_departureQuiet (s : State) : (startQuiet s).departureQuiet = some Config.departureQuiet := rfl
@[simp] theorem startQuiet_dlc (s : State) : (startQuiet s).dlc = s.dlc := rfl
@[simp] theorem startQuiet_ssc (s : State) : (startQuiet s).ssc = s.ssc := rfl
@[simp] theorem startQuiet_rlm (s : State) : (startQuiet s).rlm = s.rlm := rfl
@[simp] theorem startQuiet_scl (s : State) : (startQuiet s).scl = s.scl := rfl
@[simp] theorem startQuiet_mac (s : State) : (startQuiet s).mac = s.mac := rfl
@[simp] theorem startQuiet_tlp (s : State) : (startQuiet s).tlp = s.tlp := rfl
@[simp] theorem startQuiet_ilp (s : State) : (startQuiet s).ilp = s.ilp := rfl
@[simp] theorem startQuiet_slp (s : State) : (startQuiet s).slp = s.slp := rfl
@[simp] theorem startQuiet_sent (s : State) : (startQuiet s).sent = s.sent := rfl
@[simp] theorem startQuiet_summaryDue (s : State) : (startQuiet s).summaryDue = s.summaryDue := rfl
@[simp] theorem startQuiet_restartDue (s : State) : (startQuiet s).restartDue = s.restartDue := rfl
@[simp] theorem startQuiet_pending (s : State) : (startQuiet s).pending = s.pending := rfl

/-! ### fresh -/

@[simp] theorem fresh_geo (s : State) : (fresh s).geo = s.geo := rfl
@[simp] theorem fresh_store (s : State) : (fresh s).store = s.store := rfl
@[simp] theorem fresh_readerA (s : State) : (fresh s).readerA = s.readerA := rfl
@[simp] theorem fresh_readerB (s : State) : (fresh s).readerB = s.readerB := rfl
@[simp] theorem fresh_berth (s : State) : (fresh s).berth = s.berth := rfl
@[simp] theorem fresh_stopSettle (s : State) : (fresh s).stopSettle = s.stopSettle := rfl
@[simp] theorem fresh_checkOwed (s : State) : (fresh s).checkOwed = s.checkOwed := rfl
@[simp] theorem fresh_departureQuiet (s : State) : (fresh s).departureQuiet = s.departureQuiet := rfl
@[simp] theorem fresh_dlc (s : State) : (fresh s).dlc = s.dlc := rfl
@[simp] theorem fresh_ssc (s : State) : (fresh s).ssc = s.ssc := rfl
@[simp] theorem fresh_rlm (s : State) : (fresh s).rlm = s.rlm := rfl
@[simp] theorem fresh_scl (s : State) : (fresh s).scl = s.scl := rfl
@[simp] theorem fresh_mac (s : State) : (fresh s).mac = s.mac := rfl
@[simp] theorem fresh_tlp (s : State) : (fresh s).tlp = s.tlp := rfl
@[simp] theorem fresh_ilp (s : State) : (fresh s).ilp = s.ilp := rfl
@[simp] theorem fresh_slp (s : State) : (fresh s).slp = s.slp := rfl
@[simp] theorem fresh_sent (s : State) : (fresh s).sent = [] := rfl
@[simp] theorem fresh_summaryDue (s : State) : (fresh s).summaryDue = false := rfl
@[simp] theorem fresh_restartDue (s : State) : (fresh s).restartDue = s.restartDue := rfl
@[simp] theorem fresh_pending (s : State) : (fresh s).pending = s.pending := rfl

/-! ### putDoor -/

@[simp] theorem putDoor_geo (s : State) (d : Door) (r : DoorRecord) : (putDoor s d r).geo = s.geo := rfl
@[simp] theorem putDoor_store (s : State) (d : Door) (r : DoorRecord) : (putDoor s d r).store = s.store := rfl
@[simp] theorem putDoor_readerA (s : State) (d : Door) (r : DoorRecord) : (putDoor s d r).readerA = s.readerA := rfl
@[simp] theorem putDoor_readerB (s : State) (d : Door) (r : DoorRecord) : (putDoor s d r).readerB = s.readerB := rfl
@[simp] theorem putDoor_berth (s : State) (d : Door) (r : DoorRecord) : (putDoor s d r).berth = s.berth := rfl
@[simp] theorem putDoor_stopSettle (s : State) (d : Door) (r : DoorRecord) : (putDoor s d r).stopSettle = s.stopSettle := rfl
@[simp] theorem putDoor_checkOwed (s : State) (d : Door) (r : DoorRecord) : (putDoor s d r).checkOwed = s.checkOwed := rfl
@[simp] theorem putDoor_departureQuiet (s : State) (d : Door) (r : DoorRecord) : (putDoor s d r).departureQuiet = s.departureQuiet := rfl
@[simp] theorem putDoor_dlc (s : State) (d : Door) (r : DoorRecord) : (putDoor s d r).dlc = { s.dlc with doors := s.dlc.doors.set d r } := rfl
@[simp] theorem putDoor_ssc (s : State) (d : Door) (r : DoorRecord) : (putDoor s d r).ssc = s.ssc := rfl
@[simp] theorem putDoor_rlm (s : State) (d : Door) (r : DoorRecord) : (putDoor s d r).rlm = s.rlm := rfl
@[simp] theorem putDoor_scl (s : State) (d : Door) (r : DoorRecord) : (putDoor s d r).scl = s.scl := rfl
@[simp] theorem putDoor_mac (s : State) (d : Door) (r : DoorRecord) : (putDoor s d r).mac = s.mac := rfl
@[simp] theorem putDoor_tlp (s : State) (d : Door) (r : DoorRecord) : (putDoor s d r).tlp = s.tlp := rfl
@[simp] theorem putDoor_ilp (s : State) (d : Door) (r : DoorRecord) : (putDoor s d r).ilp = s.ilp := rfl
@[simp] theorem putDoor_slp (s : State) (d : Door) (r : DoorRecord) : (putDoor s d r).slp = s.slp := rfl
@[simp] theorem putDoor_sent (s : State) (d : Door) (r : DoorRecord) : (putDoor s d r).sent = s.sent := rfl
@[simp] theorem putDoor_summaryDue (s : State) (d : Door) (r : DoorRecord) : (putDoor s d r).summaryDue = s.summaryDue := rfl
@[simp] theorem putDoor_restartDue (s : State) (d : Door) (r : DoorRecord) : (putDoor s d r).restartDue = s.restartDue := rfl
@[simp] theorem putDoor_pending (s : State) (d : Door) (r : DoorRecord) : (putDoor s d r).pending = s.pending := rfl

/-! ### putChannel -/

@[simp] theorem putChannel_geo (s : State) (c : Channel) (r : ChannelRecord) : (putChannel s c r).geo = s.geo := rfl
@[simp] theorem putChannel_store (s : State) (c : Channel) (r : ChannelRecord) : (putChannel s c r).store = s.store := rfl
@[simp] theorem putChannel_readerA (s : State) (c : Channel) (r : ChannelRecord) : (putChannel s c r).readerA = s.readerA := rfl
@[simp] theorem putChannel_readerB (s : State) (c : Channel) (r : ChannelRecord) : (putChannel s c r).readerB = s.readerB := rfl
@[simp] theorem putChannel_berth (s : State) (c : Channel) (r : ChannelRecord) : (putChannel s c r).berth = s.berth := rfl
@[simp] theorem putChannel_stopSettle (s : State) (c : Channel) (r : ChannelRecord) : (putChannel s c r).stopSettle = s.stopSettle := rfl
@[simp] theorem putChannel_checkOwed (s : State) (c : Channel) (r : ChannelRecord) : (putChannel s c r).checkOwed = s.checkOwed := rfl
@[simp] theorem putChannel_departureQuiet (s : State) (c : Channel) (r : ChannelRecord) : (putChannel s c r).departureQuiet = s.departureQuiet := rfl
@[simp] theorem putChannel_dlc (s : State) (c : Channel) (r : ChannelRecord) : (putChannel s c r).dlc = s.dlc := rfl
@[simp] theorem putChannel_ssc (s : State) (c : Channel) (r : ChannelRecord) : (putChannel s c r).ssc = { s.ssc with channels := s.ssc.channels.set c r } := rfl
@[simp] theorem putChannel_rlm (s : State) (c : Channel) (r : ChannelRecord) : (putChannel s c r).rlm = s.rlm := rfl
@[simp] theorem putChannel_scl (s : State) (c : Channel) (r : ChannelRecord) : (putChannel s c r).scl = s.scl := rfl
@[simp] theorem putChannel_mac (s : State) (c : Channel) (r : ChannelRecord) : (putChannel s c r).mac = s.mac := rfl
@[simp] theorem putChannel_tlp (s : State) (c : Channel) (r : ChannelRecord) : (putChannel s c r).tlp = s.tlp := rfl
@[simp] theorem putChannel_ilp (s : State) (c : Channel) (r : ChannelRecord) : (putChannel s c r).ilp = s.ilp := rfl
@[simp] theorem putChannel_slp (s : State) (c : Channel) (r : ChannelRecord) : (putChannel s c r).slp = s.slp := rfl
@[simp] theorem putChannel_sent (s : State) (c : Channel) (r : ChannelRecord) : (putChannel s c r).sent = s.sent := rfl
@[simp] theorem putChannel_summaryDue (s : State) (c : Channel) (r : ChannelRecord) : (putChannel s c r).summaryDue = s.summaryDue := rfl
@[simp] theorem putChannel_restartDue (s : State) (c : Channel) (r : ChannelRecord) : (putChannel s c r).restartDue = s.restartDue := rfl
@[simp] theorem putChannel_pending (s : State) (c : Channel) (r : ChannelRecord) : (putChannel s c r).pending = s.pending := rfl

/-! ### send -/

@[simp] theorem send_geo (o : Output) (s : State) : (send o s).geo = s.geo := rfl
@[simp] theorem send_store (o : Output) (s : State) : (send o s).store = s.store := rfl
@[simp] theorem send_readerA (o : Output) (s : State) : (send o s).readerA = s.readerA := rfl
@[simp] theorem send_readerB (o : Output) (s : State) : (send o s).readerB = s.readerB := rfl
@[simp] theorem send_berth (o : Output) (s : State) : (send o s).berth = s.berth := rfl
@[simp] theorem send_stopSettle (o : Output) (s : State) : (send o s).stopSettle = s.stopSettle := rfl
@[simp] theorem send_checkOwed (o : Output) (s : State) : (send o s).checkOwed = s.checkOwed := rfl
@[simp] theorem send_departureQuiet (o : Output) (s : State) : (send o s).departureQuiet = s.departureQuiet := rfl
@[simp] theorem send_dlc (o : Output) (s : State) : (send o s).dlc = s.dlc := rfl
@[simp] theorem send_ssc (o : Output) (s : State) : (send o s).ssc = s.ssc := rfl
@[simp] theorem send_rlm (o : Output) (s : State) : (send o s).rlm = s.rlm := rfl
@[simp] theorem send_scl (o : Output) (s : State) : (send o s).scl = s.scl := rfl
@[simp] theorem send_mac (o : Output) (s : State) : (send o s).mac = s.mac := rfl
@[simp] theorem send_tlp (o : Output) (s : State) : (send o s).tlp = s.tlp := rfl
@[simp] theorem send_ilp (o : Output) (s : State) : (send o s).ilp = s.ilp := rfl
@[simp] theorem send_slp (o : Output) (s : State) : (send o s).slp = s.slp := rfl
@[simp] theorem send_sent (o : Output) (s : State) : (send o s).sent = s.sent ++ [o] := rfl
@[simp] theorem send_summaryDue (o : Output) (s : State) : (send o s).summaryDue = s.summaryDue := rfl
@[simp] theorem send_restartDue (o : Output) (s : State) : (send o s).restartDue = s.restartDue := rfl
@[simp] theorem send_pending (o : Output) (s : State) : (send o s).pending = s.pending := rfl

/-! ### sendReply -/

@[simp] theorem sendReply_geo (f : Frame) (r : Reply) (s : State) : (sendReply f r s).geo = s.geo := rfl
@[simp] theorem sendReply_store (f : Frame) (r : Reply) (s : State) : (sendReply f r s).store = s.store := rfl
@[simp] theorem sendReply_readerA (f : Frame) (r : Reply) (s : State) : (sendReply f r s).readerA = s.readerA := rfl
@[simp] theorem sendReply_readerB (f : Frame) (r : Reply) (s : State) : (sendReply f r s).readerB = s.readerB := rfl
@[simp] theorem sendReply_berth (f : Frame) (r : Reply) (s : State) : (sendReply f r s).berth = s.berth := rfl
@[simp] theorem sendReply_stopSettle (f : Frame) (r : Reply) (s : State) : (sendReply f r s).stopSettle = s.stopSettle := rfl
@[simp] theorem sendReply_checkOwed (f : Frame) (r : Reply) (s : State) : (sendReply f r s).checkOwed = s.checkOwed := rfl
@[simp] theorem sendReply_departureQuiet (f : Frame) (r : Reply) (s : State) : (sendReply f r s).departureQuiet = s.departureQuiet := rfl
@[simp] theorem sendReply_dlc (f : Frame) (r : Reply) (s : State) : (sendReply f r s).dlc = s.dlc := rfl
@[simp] theorem sendReply_ssc (f : Frame) (r : Reply) (s : State) : (sendReply f r s).ssc = s.ssc := rfl
@[simp] theorem sendReply_rlm (f : Frame) (r : Reply) (s : State) : (sendReply f r s).rlm = s.rlm := rfl
@[simp] theorem sendReply_scl (f : Frame) (r : Reply) (s : State) : (sendReply f r s).scl = s.scl := rfl
@[simp] theorem sendReply_mac (f : Frame) (r : Reply) (s : State) : (sendReply f r s).mac = s.mac := rfl
@[simp] theorem sendReply_tlp (f : Frame) (r : Reply) (s : State) : (sendReply f r s).tlp = s.tlp := rfl
@[simp] theorem sendReply_ilp (f : Frame) (r : Reply) (s : State) : (sendReply f r s).ilp = s.ilp := rfl
@[simp] theorem sendReply_slp (f : Frame) (r : Reply) (s : State) : (sendReply f r s).slp = s.slp := rfl
@[simp] theorem sendReply_sent (f : Frame) (r : Reply) (s : State) : (sendReply f r s).sent = s.sent ++ [.frame f.link f.version f.seq (.reply r)] := rfl
@[simp] theorem sendReply_summaryDue (f : Frame) (r : Reply) (s : State) : (sendReply f r s).summaryDue = s.summaryDue := rfl
@[simp] theorem sendReply_restartDue (f : Frame) (r : Reply) (s : State) : (sendReply f r s).restartDue = s.restartDue := rfl
@[simp] theorem sendReply_pending (f : Frame) (r : Reply) (s : State) : (sendReply f r s).pending = s.pending := rfl

/-! ### setFlag -/

@[simp] theorem setFlag_geo (f : AttentionFlag) (s : State) : (setFlag f s).geo = s.geo := rfl
@[simp] theorem setFlag_store (f : AttentionFlag) (s : State) : (setFlag f s).store = s.store := rfl
@[simp] theorem setFlag_readerA (f : AttentionFlag) (s : State) : (setFlag f s).readerA = s.readerA := rfl
@[simp] theorem setFlag_readerB (f : AttentionFlag) (s : State) : (setFlag f s).readerB = s.readerB := rfl
@[simp] theorem setFlag_berth (f : AttentionFlag) (s : State) : (setFlag f s).berth = s.berth := rfl
@[simp] theorem setFlag_stopSettle (f : AttentionFlag) (s : State) : (setFlag f s).stopSettle = s.stopSettle := rfl
@[simp] theorem setFlag_checkOwed (f : AttentionFlag) (s : State) : (setFlag f s).checkOwed = s.checkOwed := rfl
@[simp] theorem setFlag_departureQuiet (f : AttentionFlag) (s : State) : (setFlag f s).departureQuiet = s.departureQuiet := rfl
@[simp] theorem setFlag_dlc (f : AttentionFlag) (s : State) : (setFlag f s).dlc = s.dlc := rfl
@[simp] theorem setFlag_ssc (f : AttentionFlag) (s : State) : (setFlag f s).ssc = s.ssc := rfl
@[simp] theorem setFlag_rlm (f : AttentionFlag) (s : State) : (setFlag f s).rlm = s.rlm := rfl
@[simp] theorem setFlag_scl (f : AttentionFlag) (s : State) : (setFlag f s).scl = s.scl := rfl
@[simp] theorem setFlag_mac (f : AttentionFlag) (s : State) : (setFlag f s).mac = s.mac := rfl
@[simp] theorem setFlag_tlp (f : AttentionFlag) (s : State) : (setFlag f s).tlp = s.tlp := rfl
@[simp] theorem setFlag_ilp (f : AttentionFlag) (s : State) : (setFlag f s).ilp = s.ilp := rfl
@[simp] theorem setFlag_slp (f : AttentionFlag) (s : State) : (setFlag f s).slp = { s.slp with flags := s.slp.flags.set f.index true } := rfl
@[simp] theorem setFlag_sent (f : AttentionFlag) (s : State) : (setFlag f s).sent = s.sent := rfl
@[simp] theorem setFlag_summaryDue (f : AttentionFlag) (s : State) : (setFlag f s).summaryDue = s.summaryDue := rfl
@[simp] theorem setFlag_restartDue (f : AttentionFlag) (s : State) : (setFlag f s).restartDue = s.restartDue := rfl
@[simp] theorem setFlag_pending (f : AttentionFlag) (s : State) : (setFlag f s).pending = s.pending := rfl

/-! ### setMark -/

@[simp] theorem setMark_geo (d : Door) (s : State) : (setMark d s).geo = s.geo := rfl
@[simp] theorem setMark_store (d : Door) (s : State) : (setMark d s).store = s.store := rfl
@[simp] theorem setMark_readerA (d : Door) (s : State) : (setMark d s).readerA = s.readerA := rfl
@[simp] theorem setMark_readerB (d : Door) (s : State) : (setMark d s).readerB = s.readerB := rfl
@[simp] theorem setMark_berth (d : Door) (s : State) : (setMark d s).berth = s.berth := rfl
@[simp] theorem setMark_stopSettle (d : Door) (s : State) : (setMark d s).stopSettle = s.stopSettle := rfl
@[simp] theorem setMark_checkOwed (d : Door) (s : State) : (setMark d s).checkOwed = s.checkOwed := rfl
@[simp] theorem setMark_departureQuiet (d : Door) (s : State) : (setMark d s).departureQuiet = s.departureQuiet := rfl
@[simp] theorem setMark_dlc (d : Door) (s : State) : (setMark d s).dlc = { s.dlc with marks := s.dlc.marks.set (doorGroup d) true } := rfl
@[simp] theorem setMark_ssc (d : Door) (s : State) : (setMark d s).ssc = s.ssc := rfl
@[simp] theorem setMark_rlm (d : Door) (s : State) : (setMark d s).rlm = s.rlm := rfl
@[simp] theorem setMark_scl (d : Door) (s : State) : (setMark d s).scl = s.scl := rfl
@[simp] theorem setMark_mac (d : Door) (s : State) : (setMark d s).mac = s.mac := rfl
@[simp] theorem setMark_tlp (d : Door) (s : State) : (setMark d s).tlp = s.tlp := rfl
@[simp] theorem setMark_ilp (d : Door) (s : State) : (setMark d s).ilp = s.ilp := rfl
@[simp] theorem setMark_slp (d : Door) (s : State) : (setMark d s).slp = s.slp := rfl
@[simp] theorem setMark_sent (d : Door) (s : State) : (setMark d s).sent = s.sent := rfl
@[simp] theorem setMark_summaryDue (d : Door) (s : State) : (setMark d s).summaryDue = s.summaryDue := rfl
@[simp] theorem setMark_restartDue (d : Door) (s : State) : (setMark d s).restartDue = s.restartDue := rfl
@[simp] theorem setMark_pending (d : Door) (s : State) : (setMark d s).pending = s.pending := rfl

/-! ### setList -/

@[simp] theorem setList_geo (l : List ReleaseRecord) (s : State) : (setList l s).geo = s.geo := rfl
@[simp] theorem setList_store (l : List ReleaseRecord) (s : State) : (setList l s).store = s.store := rfl
@[simp] theorem setList_readerA (l : List ReleaseRecord) (s : State) : (setList l s).readerA = s.readerA := rfl
@[simp] theorem setList_readerB (l : List ReleaseRecord) (s : State) : (setList l s).readerB = s.readerB := rfl
@[simp] theorem setList_berth (l : List ReleaseRecord) (s : State) : (setList l s).berth = s.berth := rfl
@[simp] theorem setList_stopSettle (l : List ReleaseRecord) (s : State) : (setList l s).stopSettle = s.stopSettle := rfl
@[simp] theorem setList_checkOwed (l : List ReleaseRecord) (s : State) : (setList l s).checkOwed = s.checkOwed := rfl
@[simp] theorem setList_departureQuiet (l : List ReleaseRecord) (s : State) : (setList l s).departureQuiet = s.departureQuiet := rfl
@[simp] theorem setList_dlc (l : List ReleaseRecord) (s : State) : (setList l s).dlc = { s.dlc with releaseInForce := perFireActive l } := rfl
@[simp] theorem setList_ssc (l : List ReleaseRecord) (s : State) : (setList l s).ssc = s.ssc := rfl
@[simp] theorem setList_rlm (l : List ReleaseRecord) (s : State) : (setList l s).rlm = { s.rlm with list := l } := rfl
@[simp] theorem setList_scl (l : List ReleaseRecord) (s : State) : (setList l s).scl = s.scl := rfl
@[simp] theorem setList_mac (l : List ReleaseRecord) (s : State) : (setList l s).mac = s.mac := rfl
@[simp] theorem setList_tlp (l : List ReleaseRecord) (s : State) : (setList l s).tlp = s.tlp := rfl
@[simp] theorem setList_ilp (l : List ReleaseRecord) (s : State) : (setList l s).ilp = s.ilp := rfl
@[simp] theorem setList_slp (l : List ReleaseRecord) (s : State) : (setList l s).slp = s.slp := rfl
@[simp] theorem setList_sent (l : List ReleaseRecord) (s : State) : (setList l s).sent = s.sent := rfl
@[simp] theorem setList_summaryDue (l : List ReleaseRecord) (s : State) : (setList l s).summaryDue = s.summaryDue := rfl
@[simp] theorem setList_restartDue (l : List ReleaseRecord) (s : State) : (setList l s).restartDue = s.restartDue := rfl
@[simp] theorem setList_pending (l : List ReleaseRecord) (s : State) : (setList l s).pending = s.pending := rfl

/-! ### handSummary -/

@[simp] theorem handSummary_geo (s : State) : (handSummary s).geo = s.geo := rfl
@[simp] theorem handSummary_store (s : State) : (handSummary s).store = s.store := rfl
@[simp] theorem handSummary_readerA (s : State) : (handSummary s).readerA = s.readerA := rfl
@[simp] theorem handSummary_readerB (s : State) : (handSummary s).readerB = s.readerB := rfl
@[simp] theorem handSummary_berth (s : State) : (handSummary s).berth = s.berth := rfl
@[simp] theorem handSummary_stopSettle (s : State) : (handSummary s).stopSettle = s.stopSettle := rfl
@[simp] theorem handSummary_checkOwed (s : State) : (handSummary s).checkOwed = s.checkOwed := rfl
@[simp] theorem handSummary_departureQuiet (s : State) : (handSummary s).departureQuiet = s.departureQuiet := rfl
@[simp] theorem handSummary_dlc (s : State) : (handSummary s).dlc = s.dlc := rfl
@[simp] theorem handSummary_ssc (s : State) : (handSummary s).ssc = s.ssc := rfl
@[simp] theorem handSummary_rlm (s : State) : (handSummary s).rlm = s.rlm := rfl
@[simp] theorem handSummary_scl (s : State) : (handSummary s).scl = s.scl := rfl
@[simp] theorem handSummary_mac (s : State) : (handSummary s).mac = s.mac := rfl
@[simp] theorem handSummary_tlp (s : State) : (handSummary s).tlp = { s.tlp with heldSummary := some (summaryOf s.dlc.doors s.berth) } := rfl
@[simp] theorem handSummary_ilp (s : State) : (handSummary s).ilp = s.ilp := rfl
@[simp] theorem handSummary_slp (s : State) : (handSummary s).slp = s.slp := rfl
@[simp] theorem handSummary_sent (s : State) : (handSummary s).sent = s.sent := rfl
@[simp] theorem handSummary_summaryDue (s : State) : (handSummary s).summaryDue = true := rfl
@[simp] theorem handSummary_restartDue (s : State) : (handSummary s).restartDue = s.restartDue := rfl
@[simp] theorem handSummary_pending (s : State) : (handSummary s).pending = s.pending := rfl

/-! ### setMode -/

@[simp] theorem setMode_geo (m : PlatformMode) (s : State) : (setMode m s).geo = s.geo := rfl
@[simp] theorem setMode_store (m : PlatformMode) (s : State) : (setMode m s).store = s.store := rfl
@[simp] theorem setMode_readerA (m : PlatformMode) (s : State) : (setMode m s).readerA = s.readerA := rfl
@[simp] theorem setMode_readerB (m : PlatformMode) (s : State) : (setMode m s).readerB = s.readerB := rfl
@[simp] theorem setMode_berth (m : PlatformMode) (s : State) : (setMode m s).berth = s.berth := rfl
@[simp] theorem setMode_stopSettle (m : PlatformMode) (s : State) : (setMode m s).stopSettle = s.stopSettle := rfl
@[simp] theorem setMode_checkOwed (m : PlatformMode) (s : State) : (setMode m s).checkOwed = s.checkOwed := rfl
@[simp] theorem setMode_departureQuiet (m : PlatformMode) (s : State) : (setMode m s).departureQuiet = s.departureQuiet := rfl
@[simp] theorem setMode_dlc (m : PlatformMode) (s : State) : (setMode m s).dlc = s.dlc := rfl
@[simp] theorem setMode_ssc (m : PlatformMode) (s : State) : (setMode m s).ssc = s.ssc := rfl
@[simp] theorem setMode_rlm (m : PlatformMode) (s : State) : (setMode m s).rlm = s.rlm := rfl
@[simp] theorem setMode_scl (m : PlatformMode) (s : State) : (setMode m s).scl = s.scl := rfl
@[simp] theorem setMode_mac (m : PlatformMode) (s : State) : (setMode m s).mac = { s.mac with mode := m, test := testInMode s.mac.mode m s.mac.test } := rfl
@[simp] theorem setMode_tlp (m : PlatformMode) (s : State) : (setMode m s).tlp = s.tlp := rfl
@[simp] theorem setMode_ilp (m : PlatformMode) (s : State) : (setMode m s).ilp = s.ilp := rfl
@[simp] theorem setMode_slp (m : PlatformMode) (s : State) : (setMode m s).slp = s.slp := rfl
@[simp] theorem setMode_sent (m : PlatformMode) (s : State) : (setMode m s).sent = s.sent := rfl
@[simp] theorem setMode_summaryDue (m : PlatformMode) (s : State) : (setMode m s).summaryDue = s.summaryDue := rfl
@[simp] theorem setMode_restartDue (m : PlatformMode) (s : State) : (setMode m s).restartDue = s.restartDue := rfl
@[simp] theorem setMode_pending (m : PlatformMode) (s : State) : (setMode m s).pending = s.pending := rfl

/-! ### setAuthorisation -/

@[simp] theorem setAuthorisation_geo (id : Option Nat) (s : State) : (setAuthorisation id s).geo = s.geo := rfl
@[simp] theorem setAuthorisation_store (id : Option Nat) (s : State) : (setAuthorisation id s).store = s.store := rfl
@[simp] theorem setAuthorisation_readerA (id : Option Nat) (s : State) : (setAuthorisation id s).readerA = s.readerA := rfl
@[simp] theorem setAuthorisation_readerB (id : Option Nat) (s : State) : (setAuthorisation id s).readerB = s.readerB := rfl
@[simp] theorem setAuthorisation_berth (id : Option Nat) (s : State) : (setAuthorisation id s).berth = { s.berth with authorisation := id } := rfl
@[simp] theorem setAuthorisation_stopSettle (id : Option Nat) (s : State) : (setAuthorisation id s).stopSettle = s.stopSettle := rfl
@[simp] theorem setAuthorisation_checkOwed (id : Option Nat) (s : State) : (setAuthorisation id s).checkOwed = s.checkOwed := rfl
@[simp] theorem setAuthorisation_departureQuiet (id : Option Nat) (s : State) : (setAuthorisation id s).departureQuiet = s.departureQuiet := rfl
@[simp] theorem setAuthorisation_dlc (id : Option Nat) (s : State) : (setAuthorisation id s).dlc = s.dlc := rfl
@[simp] theorem setAuthorisation_ssc (id : Option Nat) (s : State) : (setAuthorisation id s).ssc = s.ssc := rfl
@[simp] theorem setAuthorisation_rlm (id : Option Nat) (s : State) : (setAuthorisation id s).rlm = s.rlm := rfl
@[simp] theorem setAuthorisation_scl (id : Option Nat) (s : State) : (setAuthorisation id s).scl = s.scl := rfl
@[simp] theorem setAuthorisation_mac (id : Option Nat) (s : State) : (setAuthorisation id s).mac = s.mac := rfl
@[simp] theorem setAuthorisation_tlp (id : Option Nat) (s : State) : (setAuthorisation id s).tlp = s.tlp := rfl
@[simp] theorem setAuthorisation_ilp (id : Option Nat) (s : State) : (setAuthorisation id s).ilp = s.ilp := rfl
@[simp] theorem setAuthorisation_slp (id : Option Nat) (s : State) : (setAuthorisation id s).slp = s.slp := rfl
@[simp] theorem setAuthorisation_sent (id : Option Nat) (s : State) : (setAuthorisation id s).sent = s.sent := rfl
@[simp] theorem setAuthorisation_summaryDue (id : Option Nat) (s : State) : (setAuthorisation id s).summaryDue = s.summaryDue := rfl
@[simp] theorem setAuthorisation_restartDue (id : Option Nat) (s : State) : (setAuthorisation id s).restartDue = s.restartDue := rfl
@[simp] theorem setAuthorisation_pending (id : Option Nat) (s : State) : (setAuthorisation id s).pending = s.pending := rfl

/-! ### requestClose -/

@[simp] theorem requestClose_geo (s : State) : (requestClose s).geo = s.geo := rfl
@[simp] theorem requestClose_store (s : State) : (requestClose s).store = s.store := rfl
@[simp] theorem requestClose_readerA (s : State) : (requestClose s).readerA = s.readerA := rfl
@[simp] theorem requestClose_readerB (s : State) : (requestClose s).readerB = s.readerB := rfl
@[simp] theorem requestClose_berth (s : State) : (requestClose s).berth = { s.berth with closeRequested := true } := rfl
@[simp] theorem requestClose_stopSettle (s : State) : (requestClose s).stopSettle = s.stopSettle := rfl
@[simp] theorem requestClose_checkOwed (s : State) : (requestClose s).checkOwed = s.checkOwed := rfl
@[simp] theorem requestClose_departureQuiet (s : State) : (requestClose s).departureQuiet = s.departureQuiet := rfl
@[simp] theorem requestClose_dlc (s : State) : (requestClose s).dlc = s.dlc := rfl
@[simp] theorem requestClose_ssc (s : State) : (requestClose s).ssc = s.ssc := rfl
@[simp] theorem requestClose_rlm (s : State) : (requestClose s).rlm = s.rlm := rfl
@[simp] theorem requestClose_scl (s : State) : (requestClose s).scl = s.scl := rfl
@[simp] theorem requestClose_mac (s : State) : (requestClose s).mac = s.mac := rfl
@[simp] theorem requestClose_tlp (s : State) : (requestClose s).tlp = s.tlp := rfl
@[simp] theorem requestClose_ilp (s : State) : (requestClose s).ilp = s.ilp := rfl
@[simp] theorem requestClose_slp (s : State) : (requestClose s).slp = s.slp := rfl
@[simp] theorem requestClose_sent (s : State) : (requestClose s).sent = s.sent := rfl
@[simp] theorem requestClose_summaryDue (s : State) : (requestClose s).summaryDue = s.summaryDue := rfl
@[simp] theorem requestClose_restartDue (s : State) : (requestClose s).restartDue = s.restartDue := rfl
@[simp] theorem requestClose_pending (s : State) : (requestClose s).pending = s.pending := rfl

/-! ### macDoorChange -/

@[simp] theorem macDoorChange_geo (d : Door) (st : DoorState) (s : State) : (macDoorChange d st s).geo = s.geo := rfl
@[simp] theorem macDoorChange_store (d : Door) (st : DoorState) (s : State) : (macDoorChange d st s).store = s.store := rfl
@[simp] theorem macDoorChange_readerA (d : Door) (st : DoorState) (s : State) : (macDoorChange d st s).readerA = s.readerA := rfl
@[simp] theorem macDoorChange_readerB (d : Door) (st : DoorState) (s : State) : (macDoorChange d st s).readerB = s.readerB := rfl
@[simp] theorem macDoorChange_berth (d : Door) (st : DoorState) (s : State) : (macDoorChange d st s).berth = s.berth := rfl
@[simp] theorem macDoorChange_stopSettle (d : Door) (st : DoorState) (s : State) : (macDoorChange d st s).stopSettle = s.stopSettle := rfl
@[simp] theorem macDoorChange_checkOwed (d : Door) (st : DoorState) (s : State) : (macDoorChange d st s).checkOwed = s.checkOwed := rfl
@[simp] theorem macDoorChange_departureQuiet (d : Door) (st : DoorState) (s : State) : (macDoorChange d st s).departureQuiet = s.departureQuiet := rfl
@[simp] theorem macDoorChange_dlc (d : Door) (st : DoorState) (s : State) : (macDoorChange d st s).dlc = s.dlc := rfl
@[simp] theorem macDoorChange_ssc (d : Door) (st : DoorState) (s : State) : (macDoorChange d st s).ssc = s.ssc := rfl
@[simp] theorem macDoorChange_rlm (d : Door) (st : DoorState) (s : State) : (macDoorChange d st s).rlm = s.rlm := rfl
@[simp] theorem macDoorChange_scl (d : Door) (st : DoorState) (s : State) : (macDoorChange d st s).scl = s.scl := rfl
@[simp] theorem macDoorChange_mac (d : Door) (st : DoorState) (s : State) : (macDoorChange d st s).mac = { s.mac with test := testAfterDoor d st s.mac.test } := rfl
@[simp] theorem macDoorChange_tlp (d : Door) (st : DoorState) (s : State) : (macDoorChange d st s).tlp = s.tlp := rfl
@[simp] theorem macDoorChange_ilp (d : Door) (st : DoorState) (s : State) : (macDoorChange d st s).ilp = s.ilp := rfl
@[simp] theorem macDoorChange_slp (d : Door) (st : DoorState) (s : State) : (macDoorChange d st s).slp = s.slp := rfl
@[simp] theorem macDoorChange_sent (d : Door) (st : DoorState) (s : State) : (macDoorChange d st s).sent = s.sent := rfl
@[simp] theorem macDoorChange_summaryDue (d : Door) (st : DoorState) (s : State) : (macDoorChange d st s).summaryDue = s.summaryDue := rfl
@[simp] theorem macDoorChange_restartDue (d : Door) (st : DoorState) (s : State) : (macDoorChange d st s).restartDue = s.restartDue := rfl
@[simp] theorem macDoorChange_pending (d : Door) (st : DoorState) (s : State) : (macDoorChange d st s).pending = s.pending := rfl

/-! ### setReader_a -/

@[simp] theorem setReader_a_geo (s : State) (r : Reader) : (setReader s .a r).geo = s.geo := rfl
@[simp] theorem setReader_a_store (s : State) (r : Reader) : (setReader s .a r).store = s.store := rfl
@[simp] theorem setReader_a_readerA (s : State) (r : Reader) : (setReader s .a r).readerA = r := rfl
@[simp] theorem setReader_a_readerB (s : State) (r : Reader) : (setReader s .a r).readerB = s.readerB := rfl
@[simp] theorem setReader_a_berth (s : State) (r : Reader) : (setReader s .a r).berth = s.berth := rfl
@[simp] theorem setReader_a_stopSettle (s : State) (r : Reader) : (setReader s .a r).stopSettle = s.stopSettle := rfl
@[simp] theorem setReader_a_checkOwed (s : State) (r : Reader) : (setReader s .a r).checkOwed = s.checkOwed := rfl
@[simp] theorem setReader_a_departureQuiet (s : State) (r : Reader) : (setReader s .a r).departureQuiet = s.departureQuiet := rfl
@[simp] theorem setReader_a_dlc (s : State) (r : Reader) : (setReader s .a r).dlc = s.dlc := rfl
@[simp] theorem setReader_a_ssc (s : State) (r : Reader) : (setReader s .a r).ssc = s.ssc := rfl
@[simp] theorem setReader_a_rlm (s : State) (r : Reader) : (setReader s .a r).rlm = s.rlm := rfl
@[simp] theorem setReader_a_scl (s : State) (r : Reader) : (setReader s .a r).scl = s.scl := rfl
@[simp] theorem setReader_a_mac (s : State) (r : Reader) : (setReader s .a r).mac = s.mac := rfl
@[simp] theorem setReader_a_tlp (s : State) (r : Reader) : (setReader s .a r).tlp = s.tlp := rfl
@[simp] theorem setReader_a_ilp (s : State) (r : Reader) : (setReader s .a r).ilp = s.ilp := rfl
@[simp] theorem setReader_a_slp (s : State) (r : Reader) : (setReader s .a r).slp = s.slp := rfl
@[simp] theorem setReader_a_sent (s : State) (r : Reader) : (setReader s .a r).sent = s.sent := rfl
@[simp] theorem setReader_a_summaryDue (s : State) (r : Reader) : (setReader s .a r).summaryDue = s.summaryDue := rfl
@[simp] theorem setReader_a_restartDue (s : State) (r : Reader) : (setReader s .a r).restartDue = s.restartDue := rfl
@[simp] theorem setReader_a_pending (s : State) (r : Reader) : (setReader s .a r).pending = s.pending := rfl

/-! ### setReader_b -/

@[simp] theorem setReader_b_geo (s : State) (r : Reader) : (setReader s .b r).geo = s.geo := rfl
@[simp] theorem setReader_b_store (s : State) (r : Reader) : (setReader s .b r).store = s.store := rfl
@[simp] theorem setReader_b_readerA (s : State) (r : Reader) : (setReader s .b r).readerA = s.readerA := rfl
@[simp] theorem setReader_b_readerB (s : State) (r : Reader) : (setReader s .b r).readerB = r := rfl
@[simp] theorem setReader_b_berth (s : State) (r : Reader) : (setReader s .b r).berth = s.berth := rfl
@[simp] theorem setReader_b_stopSettle (s : State) (r : Reader) : (setReader s .b r).stopSettle = s.stopSettle := rfl
@[simp] theorem setReader_b_checkOwed (s : State) (r : Reader) : (setReader s .b r).checkOwed = s.checkOwed := rfl
@[simp] theorem setReader_b_departureQuiet (s : State) (r : Reader) : (setReader s .b r).departureQuiet = s.departureQuiet := rfl
@[simp] theorem setReader_b_dlc (s : State) (r : Reader) : (setReader s .b r).dlc = s.dlc := rfl
@[simp] theorem setReader_b_ssc (s : State) (r : Reader) : (setReader s .b r).ssc = s.ssc := rfl
@[simp] theorem setReader_b_rlm (s : State) (r : Reader) : (setReader s .b r).rlm = s.rlm := rfl
@[simp] theorem setReader_b_scl (s : State) (r : Reader) : (setReader s .b r).scl = s.scl := rfl
@[simp] theorem setReader_b_mac (s : State) (r : Reader) : (setReader s .b r).mac = s.mac := rfl
@[simp] theorem setReader_b_tlp (s : State) (r : Reader) : (setReader s .b r).tlp = s.tlp := rfl
@[simp] theorem setReader_b_ilp (s : State) (r : Reader) : (setReader s .b r).ilp = s.ilp := rfl
@[simp] theorem setReader_b_slp (s : State) (r : Reader) : (setReader s .b r).slp = s.slp := rfl
@[simp] theorem setReader_b_sent (s : State) (r : Reader) : (setReader s .b r).sent = s.sent := rfl
@[simp] theorem setReader_b_summaryDue (s : State) (r : Reader) : (setReader s .b r).summaryDue = s.summaryDue := rfl
@[simp] theorem setReader_b_restartDue (s : State) (r : Reader) : (setReader s .b r).restartDue = s.restartDue := rfl
@[simp] theorem setReader_b_pending (s : State) (r : Reader) : (setReader s .b r).pending = s.pending := rfl

/-! ### receive_train -/

@[simp] theorem receive_train_geo (s : State) : (receive .train s).geo = s.geo := rfl
@[simp] theorem receive_train_store (s : State) : (receive .train s).store = s.store := rfl
@[simp] theorem receive_train_readerA (s : State) : (receive .train s).readerA = s.readerA := rfl
@[simp] theorem receive_train_readerB (s : State) : (receive .train s).readerB = s.readerB := rfl
@[simp] theorem receive_train_berth (s : State) : (receive .train s).berth = s.berth := rfl
@[simp] theorem receive_train_stopSettle (s : State) : (receive .train s).stopSettle = s.stopSettle := rfl
@[simp] theorem receive_train_checkOwed (s : State) : (receive .train s).checkOwed = s.checkOwed := rfl
@[simp] theorem receive_train_departureQuiet (s : State) : (receive .train s).departureQuiet = s.departureQuiet := rfl
@[simp] theorem receive_train_dlc (s : State) : (receive .train s).dlc = s.dlc := rfl
@[simp] theorem receive_train_ssc (s : State) : (receive .train s).ssc = s.ssc := rfl
@[simp] theorem receive_train_rlm (s : State) : (receive .train s).rlm = s.rlm := rfl
@[simp] theorem receive_train_scl (s : State) : (receive .train s).scl = s.scl := rfl
@[simp] theorem receive_train_mac (s : State) : (receive .train s).mac = s.mac := rfl
@[simp] theorem receive_train_tlp (s : State) : (receive .train s).tlp = { s.tlp with link := .up, supervision := some Config.trainSupervision } := rfl
@[simp] theorem receive_train_ilp (s : State) : (receive .train s).ilp = s.ilp := rfl
@[simp] theorem receive_train_slp (s : State) : (receive .train s).slp = s.slp := rfl
@[simp] theorem receive_train_sent (s : State) : (receive .train s).sent = s.sent := rfl
@[simp] theorem receive_train_summaryDue (s : State) : (receive .train s).summaryDue = s.summaryDue := rfl
@[simp] theorem receive_train_restartDue (s : State) : (receive .train s).restartDue = s.restartDue := rfl
@[simp] theorem receive_train_pending (s : State) : (receive .train s).pending = s.pending := rfl

/-! ### receive_interlocking -/

@[simp] theorem receive_interlocking_geo (s : State) : (receive .interlocking s).geo = s.geo := rfl
@[simp] theorem receive_interlocking_store (s : State) : (receive .interlocking s).store = s.store := rfl
@[simp] theorem receive_interlocking_readerA (s : State) : (receive .interlocking s).readerA = s.readerA := rfl
@[simp] theorem receive_interlocking_readerB (s : State) : (receive .interlocking s).readerB = s.readerB := rfl
@[simp] theorem receive_interlocking_berth (s : State) : (receive .interlocking s).berth = s.berth := rfl
@[simp] theorem receive_interlocking_stopSettle (s : State) : (receive .interlocking s).stopSettle = s.stopSettle := rfl
@[simp] theorem receive_interlocking_checkOwed (s : State) : (receive .interlocking s).checkOwed = s.checkOwed := rfl
@[simp] theorem receive_interlocking_departureQuiet (s : State) : (receive .interlocking s).departureQuiet = s.departureQuiet := rfl
@[simp] theorem receive_interlocking_dlc (s : State) : (receive .interlocking s).dlc = s.dlc := rfl
@[simp] theorem receive_interlocking_ssc (s : State) : (receive .interlocking s).ssc = s.ssc := rfl
@[simp] theorem receive_interlocking_rlm (s : State) : (receive .interlocking s).rlm = s.rlm := rfl
@[simp] theorem receive_interlocking_scl (s : State) : (receive .interlocking s).scl = s.scl := rfl
@[simp] theorem receive_interlocking_mac (s : State) : (receive .interlocking s).mac = s.mac := rfl
@[simp] theorem receive_interlocking_tlp (s : State) : (receive .interlocking s).tlp = s.tlp := rfl
@[simp] theorem receive_interlocking_ilp (s : State) : (receive .interlocking s).ilp = { s.ilp with link := .up, supervision := some Config.interlockingSupervision } := rfl
@[simp] theorem receive_interlocking_slp (s : State) : (receive .interlocking s).slp = s.slp := rfl
@[simp] theorem receive_interlocking_sent (s : State) : (receive .interlocking s).sent = s.sent := rfl
@[simp] theorem receive_interlocking_summaryDue (s : State) : (receive .interlocking s).summaryDue = s.summaryDue := rfl
@[simp] theorem receive_interlocking_restartDue (s : State) : (receive .interlocking s).restartDue = s.restartDue := rfl
@[simp] theorem receive_interlocking_pending (s : State) : (receive .interlocking s).pending = s.pending := rfl

/-! ### receive_station -/

@[simp] theorem receive_station_geo (s : State) : (receive .station s).geo = s.geo := rfl
@[simp] theorem receive_station_store (s : State) : (receive .station s).store = s.store := rfl
@[simp] theorem receive_station_readerA (s : State) : (receive .station s).readerA = s.readerA := rfl
@[simp] theorem receive_station_readerB (s : State) : (receive .station s).readerB = s.readerB := rfl
@[simp] theorem receive_station_berth (s : State) : (receive .station s).berth = s.berth := rfl
@[simp] theorem receive_station_stopSettle (s : State) : (receive .station s).stopSettle = s.stopSettle := rfl
@[simp] theorem receive_station_checkOwed (s : State) : (receive .station s).checkOwed = s.checkOwed := rfl
@[simp] theorem receive_station_departureQuiet (s : State) : (receive .station s).departureQuiet = s.departureQuiet := rfl
@[simp] theorem receive_station_dlc (s : State) : (receive .station s).dlc = s.dlc := rfl
@[simp] theorem receive_station_ssc (s : State) : (receive .station s).ssc = s.ssc := rfl
@[simp] theorem receive_station_rlm (s : State) : (receive .station s).rlm = s.rlm := rfl
@[simp] theorem receive_station_scl (s : State) : (receive .station s).scl = s.scl := rfl
@[simp] theorem receive_station_mac (s : State) : (receive .station s).mac = s.mac := rfl
@[simp] theorem receive_station_tlp (s : State) : (receive .station s).tlp = s.tlp := rfl
@[simp] theorem receive_station_ilp (s : State) : (receive .station s).ilp = s.ilp := rfl
@[simp] theorem receive_station_slp (s : State) : (receive .station s).slp = { s.slp with link := .up, supervision := some Config.stationSupervision } := rfl
@[simp] theorem receive_station_sent (s : State) : (receive .station s).sent = s.sent := rfl
@[simp] theorem receive_station_summaryDue (s : State) : (receive .station s).summaryDue = s.summaryDue := rfl
@[simp] theorem receive_station_restartDue (s : State) : (receive .station s).restartDue = s.restartDue := rfl
@[simp] theorem receive_station_pending (s : State) : (receive .station s).pending = s.pending := rfl

/-! ### Updates chosen by an end or a link -/

@[simp] theorem setReader_geo (s : State) (e : End) (r : Reader) : (setReader s e r).geo = s.geo := by
  cases e <;> rfl
@[simp] theorem setReader_store (s : State) (e : End) (r : Reader) : (setReader s e r).store = s.store := by
  cases e <;> rfl
@[simp] theorem setReader_berth (s : State) (e : End) (r : Reader) : (setReader s e r).berth = s.berth := by
  cases e <;> rfl
@[simp] theorem setReader_stopSettle (s : State) (e : End) (r : Reader) : (setReader s e r).stopSettle = s.stopSettle := by
  cases e <;> rfl
@[simp] theorem setReader_checkOwed (s : State) (e : End) (r : Reader) : (setReader s e r).checkOwed = s.checkOwed := by
  cases e <;> rfl
@[simp] theorem setReader_departureQuiet (s : State) (e : End) (r : Reader) : (setReader s e r).departureQuiet = s.departureQuiet := by
  cases e <;> rfl
@[simp] theorem setReader_dlc (s : State) (e : End) (r : Reader) : (setReader s e r).dlc = s.dlc := by
  cases e <;> rfl
@[simp] theorem setReader_ssc (s : State) (e : End) (r : Reader) : (setReader s e r).ssc = s.ssc := by
  cases e <;> rfl
@[simp] theorem setReader_rlm (s : State) (e : End) (r : Reader) : (setReader s e r).rlm = s.rlm := by
  cases e <;> rfl
@[simp] theorem setReader_scl (s : State) (e : End) (r : Reader) : (setReader s e r).scl = s.scl := by
  cases e <;> rfl
@[simp] theorem setReader_mac (s : State) (e : End) (r : Reader) : (setReader s e r).mac = s.mac := by
  cases e <;> rfl
@[simp] theorem setReader_tlp (s : State) (e : End) (r : Reader) : (setReader s e r).tlp = s.tlp := by
  cases e <;> rfl
@[simp] theorem setReader_ilp (s : State) (e : End) (r : Reader) : (setReader s e r).ilp = s.ilp := by
  cases e <;> rfl
@[simp] theorem setReader_slp (s : State) (e : End) (r : Reader) : (setReader s e r).slp = s.slp := by
  cases e <;> rfl
@[simp] theorem setReader_sent (s : State) (e : End) (r : Reader) : (setReader s e r).sent = s.sent := by
  cases e <;> rfl
@[simp] theorem setReader_summaryDue (s : State) (e : End) (r : Reader) : (setReader s e r).summaryDue = s.summaryDue := by
  cases e <;> rfl
@[simp] theorem setReader_restartDue (s : State) (e : End) (r : Reader) : (setReader s e r).restartDue = s.restartDue := by
  cases e <;> rfl
@[simp] theorem setReader_pending (s : State) (e : End) (r : Reader) : (setReader s e r).pending = s.pending := by
  cases e <;> rfl
@[simp] theorem receive_geo (l : Link) (s : State) : (receive l s).geo = s.geo := by
  cases l <;> rfl
@[simp] theorem receive_store (l : Link) (s : State) : (receive l s).store = s.store := by
  cases l <;> rfl
@[simp] theorem receive_readerA (l : Link) (s : State) : (receive l s).readerA = s.readerA := by
  cases l <;> rfl
@[simp] theorem receive_readerB (l : Link) (s : State) : (receive l s).readerB = s.readerB := by
  cases l <;> rfl
@[simp] theorem receive_berth (l : Link) (s : State) : (receive l s).berth = s.berth := by
  cases l <;> rfl
@[simp] theorem receive_stopSettle (l : Link) (s : State) : (receive l s).stopSettle = s.stopSettle := by
  cases l <;> rfl
@[simp] theorem receive_checkOwed (l : Link) (s : State) : (receive l s).checkOwed = s.checkOwed := by
  cases l <;> rfl
@[simp] theorem receive_departureQuiet (l : Link) (s : State) : (receive l s).departureQuiet = s.departureQuiet := by
  cases l <;> rfl
@[simp] theorem receive_dlc (l : Link) (s : State) : (receive l s).dlc = s.dlc := by
  cases l <;> rfl
@[simp] theorem receive_ssc (l : Link) (s : State) : (receive l s).ssc = s.ssc := by
  cases l <;> rfl
@[simp] theorem receive_rlm (l : Link) (s : State) : (receive l s).rlm = s.rlm := by
  cases l <;> rfl
@[simp] theorem receive_scl (l : Link) (s : State) : (receive l s).scl = s.scl := by
  cases l <;> rfl
@[simp] theorem receive_mac (l : Link) (s : State) : (receive l s).mac = s.mac := by
  cases l <;> rfl
@[simp] theorem receive_sent (l : Link) (s : State) : (receive l s).sent = s.sent := by
  cases l <;> rfl
@[simp] theorem receive_summaryDue (l : Link) (s : State) : (receive l s).summaryDue = s.summaryDue := by
  cases l <;> rfl
@[simp] theorem receive_restartDue (l : Link) (s : State) : (receive l s).restartDue = s.restartDue := by
  cases l <;> rfl
@[simp] theorem receive_pending (l : Link) (s : State) : (receive l s).pending = s.pending := by
  cases l <;> rfl

@[simp] theorem receive_tlp_session (l : Link) (s : State) : (receive l s).tlp.session = s.tlp.session := by
  cases l <;> rfl
@[simp] theorem receive_tlp_sessionVersion (l : Link) (s : State) :
    (receive l s).tlp.sessionVersion = s.tlp.sessionVersion := by
  cases l <;> rfl
@[simp] theorem receive_tlp_sessionTrainId (l : Link) (s : State) :
    (receive l s).tlp.sessionTrainId = s.tlp.sessionTrainId := by
  cases l <;> rfl
@[simp] theorem receive_tlp_heldSummary (l : Link) (s : State) :
    (receive l s).tlp.heldSummary = s.tlp.heldSummary := by
  cases l <;> rfl
@[simp] theorem receive_slp_flags (l : Link) (s : State) : (receive l s).slp.flags = s.slp.flags := by
  cases l <;> rfl
@[simp] theorem receive_slp_enables (l : Link) (s : State) : (receive l s).slp.enables = s.slp.enables := by
  cases l <;> rfl

/-! ### Reads after writes -/

@[simp] theorem readerAt_setReader_self (s : State) (e : End) (r : Reader) : readerAt (setReader s e r) e = r := by
  cases e <;> rfl
theorem readerAt_setReader_ne (s : State) {e e' : End} (r : Reader) (h : e ≠ e') :
    readerAt (setReader s e r) e' = readerAt s e' := by
  cases e <;> cases e' <;> first | rfl | exact absurd rfl h
@[simp] theorem doorAt_putDoor_self (s : State) (d : Door) (r : DoorRecord) : doorAt (putDoor s d r) d = r := by
  simp [doorAt]
theorem doorAt_putDoor_ne (s : State) {d e : Door} (r : DoorRecord) (h : d ≠ e) :
    doorAt (putDoor s d r) e = doorAt s e := by
  simp [doorAt, Tab.get_set_ne _ _ h]
@[simp] theorem channelAt_putChannel_self (s : State) (c : Channel) (r : ChannelRecord) :
    channelAt (putChannel s c r) c = r := by
  simp [channelAt]
theorem channelAt_putChannel_ne (s : State) {c e : Channel} (r : ChannelRecord) (h : c ≠ e) :
    channelAt (putChannel s c r) e = channelAt s e := by
  simp [channelAt, Tab.get_set_ne _ _ h]

end Sys2Proof.Machine
end

