-- ==== Sys2Proof/Laws/Doors.lean ====
section
/-! SUPPORT. What a change of a door record can do: it writes one record, and hands on to the marks, the flags, the
enable set, the test record and the door summary. -/

namespace Sys2Proof.Machine

/-! ## Fields that no change of a door record touches -/

@[simp] theorem dispatchIfClosed_geo (s : State) :
    (dispatchIfClosed s).geo = s.geo := by
  unfold dispatchIfClosed; split <;> rfl
@[simp] theorem dispatchIfClosed_store (s : State) :
    (dispatchIfClosed s).store = s.store := by
  unfold dispatchIfClosed; split <;> rfl
@[simp] theorem dispatchIfClosed_readerA (s : State) :
    (dispatchIfClosed s).readerA = s.readerA := by
  unfold dispatchIfClosed; split <;> rfl
@[simp] theorem dispatchIfClosed_readerB (s : State) :
    (dispatchIfClosed s).readerB = s.readerB := by
  unfold dispatchIfClosed; split <;> rfl
@[simp] theorem dispatchIfClosed_stopSettle (s : State) :
    (dispatchIfClosed s).stopSettle = s.stopSettle := by
  unfold dispatchIfClosed; split <;> rfl
@[simp] theorem dispatchIfClosed_checkOwed (s : State) :
    (dispatchIfClosed s).checkOwed = s.checkOwed := by
  unfold dispatchIfClosed; split <;> rfl
@[simp] theorem dispatchIfClosed_departureQuiet (s : State) :
    (dispatchIfClosed s).departureQuiet = s.departureQuiet := by
  unfold dispatchIfClosed; split <;> rfl
@[simp] theorem dispatchIfClosed_dlc (s : State) :
    (dispatchIfClosed s).dlc = s.dlc := by
  unfold dispatchIfClosed; split <;> rfl
@[simp] theorem dispatchIfClosed_ssc (s : State) :
    (dispatchIfClosed s).ssc = s.ssc := by
  unfold dispatchIfClosed; split <;> rfl
@[simp] theorem dispatchIfClosed_rlm (s : State) :
    (dispatchIfClosed s).rlm = s.rlm := by
  unfold dispatchIfClosed; split <;> rfl
@[simp] theorem dispatchIfClosed_scl (s : State) :
    (dispatchIfClosed s).scl = s.scl := by
  unfold dispatchIfClosed; split <;> rfl
@[simp] theorem dispatchIfClosed_mac (s : State) :
    (dispatchIfClosed s).mac = s.mac := by
  unfold dispatchIfClosed; split <;> rfl
@[simp] theorem dispatchIfClosed_tlp (s : State) :
    (dispatchIfClosed s).tlp = s.tlp := by
  unfold dispatchIfClosed; split <;> rfl
@[simp] theorem dispatchIfClosed_ilp (s : State) :
    (dispatchIfClosed s).ilp = s.ilp := by
  unfold dispatchIfClosed; split <;> rfl
@[simp] theorem dispatchIfClosed_slp (s : State) :
    (dispatchIfClosed s).slp = s.slp := by
  unfold dispatchIfClosed; split <;> rfl
@[simp] theorem dispatchIfClosed_sent (s : State) :
    (dispatchIfClosed s).sent = s.sent := by
  unfold dispatchIfClosed; split <;> rfl
@[simp] theorem dispatchIfClosed_summaryDue (s : State) :
    (dispatchIfClosed s).summaryDue = s.summaryDue := by
  unfold dispatchIfClosed; split <;> rfl
@[simp] theorem dispatchIfClosed_restartDue (s : State) :
    (dispatchIfClosed s).restartDue = s.restartDue := by
  unfold dispatchIfClosed; split <;> rfl
@[simp] theorem dispatchIfClosed_pending (s : State) :
    (dispatchIfClosed s).pending = s.pending := by
  unfold dispatchIfClosed; split <;> rfl
@[simp] theorem dispatchIfClosed_berth_trainId (s : State) :
    (dispatchIfClosed s).berth.trainId = s.berth.trainId := by
  unfold dispatchIfClosed; split <;> rfl
@[simp] theorem dispatchIfClosed_berth_protocolVersion (s : State) :
    (dispatchIfClosed s).berth.protocolVersion = s.berth.protocolVersion := by
  unfold dispatchIfClosed; split <;> rfl
@[simp] theorem dispatchIfClosed_berth_carCount (s : State) :
    (dispatchIfClosed s).berth.carCount = s.berth.carCount := by
  unfold dispatchIfClosed; split <;> rfl
@[simp] theorem dispatchIfClosed_berth_formationSlot (s : State) :
    (dispatchIfClosed s).berth.formationSlot = s.berth.formationSlot := by
  unfold dispatchIfClosed; split <;> rfl
@[simp] theorem dispatchIfClosed_berth_heading (s : State) :
    (dispatchIfClosed s).berth.heading = s.berth.heading := by
  unfold dispatchIfClosed; split <;> rfl
@[simp] theorem dispatchIfClosed_berth_positionSource (s : State) :
    (dispatchIfClosed s).berth.positionSource = s.berth.positionSource := by
  unfold dispatchIfClosed; split <;> rfl
@[simp] theorem dispatchIfClosed_berth_measuredFrontX (s : State) :
    (dispatchIfClosed s).berth.measuredFrontX = s.berth.measuredFrontX := by
  unfold dispatchIfClosed; split <;> rfl
@[simp] theorem dispatchIfClosed_berth_trainReportedFrontX (s : State) :
    (dispatchIfClosed s).berth.trainReportedFrontX = s.berth.trainReportedFrontX := by
  unfold dispatchIfClosed; split <;> rfl
@[simp] theorem dispatchIfClosed_berth_trainMotion (s : State) :
    (dispatchIfClosed s).berth.trainMotion = s.berth.trainMotion := by
  unfold dispatchIfClosed; split <;> rfl
@[simp] theorem dispatchIfClosed_berth_outcome (s : State) :
    (dispatchIfClosed s).berth.outcome = s.berth.outcome := by
  unfold dispatchIfClosed; split <;> rfl
@[simp] theorem dispatchIfClosed_berth_tEff (s : State) :
    (dispatchIfClosed s).berth.tEff = s.berth.tEff := by
  unfold dispatchIfClosed; split <;> rfl
@[simp] theorem dispatchIfClosed_berth_pairing (s : State) :
    (dispatchIfClosed s).berth.pairing = s.berth.pairing := by
  unfold dispatchIfClosed; split <;> rfl
@[simp] theorem dispatchIfClosed_berth_worstError (s : State) :
    (dispatchIfClosed s).berth.worstError = s.berth.worstError := by
  unfold dispatchIfClosed; split <;> rfl
@[simp] theorem dispatchIfClosed_berth_adviceError (s : State) :
    (dispatchIfClosed s).berth.adviceError = s.berth.adviceError := by
  unfold dispatchIfClosed; split <;> rfl
@[simp] theorem dispatchIfClosed_berth_authorisation (s : State) :
    (dispatchIfClosed s).berth.authorisation = s.berth.authorisation := by
  unfold dispatchIfClosed; split <;> rfl
@[simp] theorem dispatchIfClosed_berth_partialAuthorised (s : State) :
    (dispatchIfClosed s).berth.partialAuthorised = s.berth.partialAuthorised := by
  unfold dispatchIfClosed; split <;> rfl
@[simp] theorem dispatchIfClosed_berth_gapWatch (s : State) :
    (dispatchIfClosed s).berth.gapWatch = s.berth.gapWatch := by
  unfold dispatchIfClosed; split <;> rfl
@[simp] theorem dispatchIfClosed_berth_stopCount (s : State) :
    (dispatchIfClosed s).berth.stopCount = s.berth.stopCount := by
  unfold dispatchIfClosed; split <;> rfl
@[simp] theorem dispatchIfClosed_berth_linkLost (s : State) :
    (dispatchIfClosed s).berth.linkLost = s.berth.linkLost := by
  unfold dispatchIfClosed; split <;> rfl
@[simp] theorem dispatchIfClosed_berth_quiet (s : State) :
    (dispatchIfClosed s).berth.quiet = s.berth.quiet := by
  unfold dispatchIfClosed; split <;> rfl
@[simp] theorem dispatchIfClosed_berth_edgeClear (s : State) :
    (dispatchIfClosed s).berth.edgeClear = s.berth.edgeClear := by
  unfold dispatchIfClosed; split <;> rfl
@[simp] theorem bsqDoorChange_geo (d : Door) (st : DoorState) (s : State) :
    (bsqDoorChange d st s).geo = s.geo := by
  unfold bsqDoorChange; split <;> (try split) <;> simp
@[simp] theorem bsqDoorChange_store (d : Door) (st : DoorState) (s : State) :
    (bsqDoorChange d st s).store = s.store := by
  unfold bsqDoorChange; split <;> (try split) <;> simp
@[simp] theorem bsqDoorChange_readerA (d : Door) (st : DoorState) (s : State) :
    (bsqDoorChange d st s).readerA = s.readerA := by
  unfold bsqDoorChange; split <;> (try split) <;> simp
@[simp] theorem bsqDoorChange_readerB (d : Door) (st : DoorState) (s : State) :
    (bsqDoorChange d st s).readerB = s.readerB := by
  unfold bsqDoorChange; split <;> (try split) <;> simp
@[simp] theorem bsqDoorChange_stopSettle (d : Door) (st : DoorState) (s : State) :
    (bsqDoorChange d st s).stopSettle = s.stopSettle := by
  unfold bsqDoorChange; split <;> (try split) <;> simp
@[simp] theorem bsqDoorChange_checkOwed (d : Door) (st : DoorState) (s : State) :
    (bsqDoorChange d st s).checkOwed = s.checkOwed := by
  unfold bsqDoorChange; split <;> (try split) <;> simp
@[simp] theorem bsqDoorChange_departureQuiet (d : Door) (st : DoorState) (s : State) :
    (bsqDoorChange d st s).departureQuiet = s.departureQuiet := by
  unfold bsqDoorChange; split <;> (try split) <;> simp
@[simp] theorem bsqDoorChange_dlc (d : Door) (st : DoorState) (s : State) :
    (bsqDoorChange d st s).dlc = s.dlc := by
  unfold bsqDoorChange; split <;> (try split) <;> simp
@[simp] theorem bsqDoorChange_ssc (d : Door) (st : DoorState) (s : State) :
    (bsqDoorChange d st s).ssc = s.ssc := by
  unfold bsqDoorChange; split <;> (try split) <;> simp
@[simp] theorem bsqDoorChange_rlm (d : Door) (st : DoorState) (s : State) :
    (bsqDoorChange d st s).rlm = s.rlm := by
  unfold bsqDoorChange; split <;> (try split) <;> simp
@[simp] theorem bsqDoorChange_scl (d : Door) (st : DoorState) (s : State) :
    (bsqDoorChange d st s).scl = s.scl := by
  unfold bsqDoorChange; split <;> (try split) <;> simp
@[simp] theorem bsqDoorChange_mac (d : Door) (st : DoorState) (s : State) :
    (bsqDoorChange d st s).mac = s.mac := by
  unfold bsqDoorChange; split <;> (try split) <;> simp
@[simp] theorem bsqDoorChange_ilp (d : Door) (st : DoorState) (s : State) :
    (bsqDoorChange d st s).ilp = s.ilp := by
  unfold bsqDoorChange; split <;> (try split) <;> simp
@[simp] theorem bsqDoorChange_slp (d : Door) (st : DoorState) (s : State) :
    (bsqDoorChange d st s).slp = s.slp := by
  unfold bsqDoorChange; split <;> (try split) <;> simp
@[simp] theorem bsqDoorChange_sent (d : Door) (st : DoorState) (s : State) :
    (bsqDoorChange d st s).sent = s.sent := by
  unfold bsqDoorChange; split <;> (try split) <;> simp
@[simp] theorem bsqDoorChange_restartDue (d : Door) (st : DoorState) (s : State) :
    (bsqDoorChange d st s).restartDue = s.restartDue := by
  unfold bsqDoorChange; split <;> (try split) <;> simp
@[simp] theorem bsqDoorChange_pending (d : Door) (st : DoorState) (s : State) :
    (bsqDoorChange d st s).pending = s.pending := by
  unfold bsqDoorChange; split <;> (try split) <;> simp
@[simp] theorem bsqDoorChange_tlp_link (d : Door) (st : DoorState) (s : State) :
    (bsqDoorChange d st s).tlp.link = s.tlp.link := by
  unfold bsqDoorChange; split <;> (try split) <;> simp
@[simp] theorem bsqDoorChange_tlp_supervision (d : Door) (st : DoorState) (s : State) :
    (bsqDoorChange d st s).tlp.supervision = s.tlp.supervision := by
  unfold bsqDoorChange; split <;> (try split) <;> simp
@[simp] theorem bsqDoorChange_tlp_session (d : Door) (st : DoorState) (s : State) :
    (bsqDoorChange d st s).tlp.session = s.tlp.session := by
  unfold bsqDoorChange; split <;> (try split) <;> simp
@[simp] theorem bsqDoorChange_tlp_sessionVersion (d : Door) (st : DoorState) (s : State) :
    (bsqDoorChange d st s).tlp.sessionVersion = s.tlp.sessionVersion := by
  unfold bsqDoorChange; split <;> (try split) <;> simp
@[simp] theorem bsqDoorChange_tlp_sessionTrainId (d : Door) (st : DoorState) (s : State) :
    (bsqDoorChange d st s).tlp.sessionTrainId = s.tlp.sessionTrainId := by
  unfold bsqDoorChange; split <;> (try split) <;> simp
@[simp] theorem bsqDoorChange_tlp_statusTimer (d : Door) (st : DoorState) (s : State) :
    (bsqDoorChange d st s).tlp.statusTimer = s.tlp.statusTimer := by
  unfold bsqDoorChange; split <;> (try split) <;> simp
@[simp] theorem bsqDoorChange_tlp_values (d : Door) (st : DoorState) (s : State) :
    (bsqDoorChange d st s).tlp.values = s.tlp.values := by
  unfold bsqDoorChange; split <;> (try split) <;> simp
@[simp] theorem bsqDoorChange_tlp_reportSeq (d : Door) (st : DoorState) (s : State) :
    (bsqDoorChange d st s).tlp.reportSeq = s.tlp.reportSeq := by
  unfold bsqDoorChange; split <;> (try split) <;> simp
@[simp] theorem bsqDoorChange_berth_trainId (d : Door) (st : DoorState) (s : State) :
    (bsqDoorChange d st s).berth.trainId = s.berth.trainId := by
  unfold bsqDoorChange; split <;> (try split) <;> simp
@[simp] theorem bsqDoorChange_berth_protocolVersion (d : Door) (st : DoorState) (s : State) :
    (bsqDoorChange d st s).berth.protocolVersion = s.berth.protocolVersion := by
  unfold bsqDoorChange; split <;> (try split) <;> simp
@[simp] theorem bsqDoorChange_berth_carCount (d : Door) (st : DoorState) (s : State) :
    (bsqDoorChange d st s).berth.carCount = s.berth.carCount := by
  unfold bsqDoorChange; split <;> (try split) <;> simp
@[simp] theorem bsqDoorChange_berth_formationSlot (d : Door) (st : DoorState) (s : State) :
    (bsqDoorChange d st s).berth.formationSlot = s.berth.formationSlot := by
  unfold bsqDoorChange; split <;> (try split) <;> simp
@[simp] theorem bsqDoorChange_berth_heading (d : Door) (st : DoorState) (s : State) :
    (bsqDoorChange d st s).berth.heading = s.berth.heading := by
  unfold bsqDoorChange; split <;> (try split) <;> simp
@[simp] theorem bsqDoorChange_berth_positionSource (d : Door) (st : DoorState) (s : State) :
    (bsqDoorChange d st s).berth.positionSource = s.berth.positionSource := by
  unfold bsqDoorChange; split <;> (try split) <;> simp
@[simp] theorem bsqDoorChange_berth_measuredFrontX (d : Door) (st : DoorState) (s : State) :
    (bsqDoorChange d st s).berth.measuredFrontX = s.berth.measuredFrontX := by
  unfold bsqDoorChange; split <;> (try split) <;> simp
@[simp] theorem bsqDoorChange_berth_trainReportedFrontX (d : Door) (st : DoorState) (s : State) :
    (bsqDoorChange d st s).berth.trainReportedFrontX = s.berth.trainReportedFrontX := by
  unfold bsqDoorChange; split <;> (try split) <;> simp
@[simp] theorem bsqDoorChange_berth_trainMotion (d : Door) (st : DoorState) (s : State) :
    (bsqDoorChange d st s).berth.trainMotion = s.berth.trainMotion := by
  unfold bsqDoorChange; split <;> (try split) <;> simp
@[simp] theorem bsqDoorChange_berth_outcome (d : Door) (st : DoorState) (s : State) :
    (bsqDoorChange d st s).berth.outcome = s.berth.outcome := by
  unfold bsqDoorChange; split <;> (try split) <;> simp
@[simp] theorem bsqDoorChange_berth_tEff (d : Door) (st : DoorState) (s : State) :
    (bsqDoorChange d st s).berth.tEff = s.berth.tEff := by
  unfold bsqDoorChange; split <;> (try split) <;> simp
@[simp] theorem bsqDoorChange_berth_pairing (d : Door) (st : DoorState) (s : State) :
    (bsqDoorChange d st s).berth.pairing = s.berth.pairing := by
  unfold bsqDoorChange; split <;> (try split) <;> simp
@[simp] theorem bsqDoorChange_berth_worstError (d : Door) (st : DoorState) (s : State) :
    (bsqDoorChange d st s).berth.worstError = s.berth.worstError := by
  unfold bsqDoorChange; split <;> (try split) <;> simp
@[simp] theorem bsqDoorChange_berth_adviceError (d : Door) (st : DoorState) (s : State) :
    (bsqDoorChange d st s).berth.adviceError = s.berth.adviceError := by
  unfold bsqDoorChange; split <;> (try split) <;> simp
@[simp] theorem bsqDoorChange_berth_authorisation (d : Door) (st : DoorState) (s : State) :
    (bsqDoorChange d st s).berth.authorisation = s.berth.authorisation := by
  unfold bsqDoorChange; split <;> (try split) <;> simp
@[simp] theorem bsqDoorChange_berth_partialAuthorised (d : Door) (st : DoorState) (s : State) :
    (bsqDoorChange d st s).berth.partialAuthorised = s.berth.partialAuthorised := by
  unfold bsqDoorChange; split <;> (try split) <;> simp
@[simp] theorem bsqDoorChange_berth_gapWatch (d : Door) (st : DoorState) (s : State) :
    (bsqDoorChange d st s).berth.gapWatch = s.berth.gapWatch := by
  unfold bsqDoorChange; split <;> (try split) <;> simp
@[simp] theorem bsqDoorChange_berth_stopCount (d : Door) (st : DoorState) (s : State) :
    (bsqDoorChange d st s).berth.stopCount = s.berth.stopCount := by
  unfold bsqDoorChange; split <;> (try split) <;> simp
@[simp] theorem bsqDoorChange_berth_linkLost (d : Door) (st : DoorState) (s : State) :
    (bsqDoorChange d st s).berth.linkLost = s.berth.linkLost := by
  unfold bsqDoorChange; split <;> (try split) <;> simp
@[simp] theorem bsqDoorChange_berth_quiet (d : Door) (st : DoorState) (s : State) :
    (bsqDoorChange d st s).berth.quiet = s.berth.quiet := by
  unfold bsqDoorChange; split <;> (try split) <;> simp
@[simp] theorem bsqDoorChange_berth_edgeClear (d : Door) (st : DoorState) (s : State) :
    (bsqDoorChange d st s).berth.edgeClear = s.berth.edgeClear := by
  unfold bsqDoorChange; split <;> (try split) <;> simp
@[simp] theorem doorFlag_geo (st : DoorState) (s : State) :
    (doorFlag st s).geo = s.geo := by
  cases st <;> rfl
@[simp] theorem doorFlag_store (st : DoorState) (s : State) :
    (doorFlag st s).store = s.store := by
  cases st <;> rfl
@[simp] theorem doorFlag_readerA (st : DoorState) (s : State) :
    (doorFlag st s).readerA = s.readerA := by
  cases st <;> rfl
@[simp] theorem doorFlag_readerB (st : DoorState) (s : State) :
    (doorFlag st s).readerB = s.readerB := by
  cases st <;> rfl
@[simp] theorem doorFlag_berth (st : DoorState) (s : State) :
    (doorFlag st s).berth = s.berth := by
  cases st <;> rfl
@[simp] theorem doorFlag_stopSettle (st : DoorState) (s : State) :
    (doorFlag st s).stopSettle = s.stopSettle := by
  cases st <;> rfl
@[simp] theorem doorFlag_checkOwed (st : DoorState) (s : State) :
    (doorFlag st s).checkOwed = s.checkOwed := by
  cases st <;> rfl
@[simp] theorem doorFlag_departureQuiet (st : DoorState) (s : State) :
    (doorFlag st s).departureQuiet = s.departureQuiet := by
  cases st <;> rfl
@[simp] theorem doorFlag_dlc (st : DoorState) (s : State) :
    (doorFlag st s).dlc = s.dlc := by
  cases st <;> rfl
@[simp] theorem doorFlag_ssc (st : DoorState) (s : State) :
    (doorFlag st s).ssc = s.ssc := by
  cases st <;> rfl
@[simp] theorem doorFlag_rlm (st : DoorState) (s : State) :
    (doorFlag st s).rlm = s.rlm := by
  cases st <;> rfl
@[simp] theorem doorFlag_scl (st : DoorState) (s : State) :
    (doorFlag st s).scl = s.scl := by
  cases st <;> rfl
@[simp] theorem doorFlag_mac (st : DoorState) (s : State) :
    (doorFlag st s).mac = s.mac := by
  cases st <;> rfl
@[simp] theorem doorFlag_tlp (st : DoorState) (s : State) :
    (doorFlag st s).tlp = s.tlp := by
  cases st <;> rfl
@[simp] theorem doorFlag_ilp (st : DoorState) (s : State) :
    (doorFlag st s).ilp = s.ilp := by
  cases st <;> rfl
@[simp] theorem doorFlag_sent (st : DoorState) (s : State) :
    (doorFlag st s).sent = s.sent := by
  cases st <;> rfl
@[simp] theorem doorFlag_summaryDue (st : DoorState) (s : State) :
    (doorFlag st s).summaryDue = s.summaryDue := by
  cases st <;> rfl
@[simp] theorem doorFlag_restartDue (st : DoorState) (s : State) :
    (doorFlag st s).restartDue = s.restartDue := by
  cases st <;> rfl
@[simp] theorem doorFlag_pending (st : DoorState) (s : State) :
    (doorFlag st s).pending = s.pending := by
  cases st <;> rfl
@[simp] theorem doorFlag_slp_link (st : DoorState) (s : State) :
    (doorFlag st s).slp.link = s.slp.link := by
  cases st <;> rfl
@[simp] theorem doorFlag_slp_supervision (st : DoorState) (s : State) :
    (doorFlag st s).slp.supervision = s.slp.supervision := by
  cases st <;> rfl
@[simp] theorem doorFlag_slp_statusTimer (st : DoorState) (s : State) :
    (doorFlag st s).slp.statusTimer = s.slp.statusTimer := by
  cases st <;> rfl
@[simp] theorem doorFlag_slp_enables (st : DoorState) (s : State) :
    (doorFlag st s).slp.enables = s.slp.enables := by
  cases st <;> rfl
@[simp] theorem doorFlag_slp_values (st : DoorState) (s : State) :
    (doorFlag st s).slp.values = s.slp.values := by
  cases st <;> rfl
@[simp] theorem doorFlag_slp_reportSeq (st : DoorState) (s : State) :
    (doorFlag st s).slp.reportSeq = s.slp.reportSeq := by
  cases st <;> rfl
@[simp] theorem writeDoor_geo (d : Door) (r : DoorRecord) (s : State) :
    (writeDoor d r s).geo = s.geo := by
  unfold writeDoor; dsimp only; split <;> rfl
@[simp] theorem writeDoor_store (d : Door) (r : DoorRecord) (s : State) :
    (writeDoor d r s).store = s.store := by
  unfold writeDoor; dsimp only; split <;> rfl
@[simp] theorem writeDoor_readerA (d : Door) (r : DoorRecord) (s : State) :
    (writeDoor d r s).readerA = s.readerA := by
  unfold writeDoor; dsimp only; split <;> rfl
@[simp] theorem writeDoor_readerB (d : Door) (r : DoorRecord) (s : State) :
    (writeDoor d r s).readerB = s.readerB := by
  unfold writeDoor; dsimp only; split <;> rfl
@[simp] theorem writeDoor_berth (d : Door) (r : DoorRecord) (s : State) :
    (writeDoor d r s).berth = s.berth := by
  unfold writeDoor; dsimp only; split <;> rfl
@[simp] theorem writeDoor_stopSettle (d : Door) (r : DoorRecord) (s : State) :
    (writeDoor d r s).stopSettle = s.stopSettle := by
  unfold writeDoor; dsimp only; split <;> rfl
@[simp] theorem writeDoor_checkOwed (d : Door) (r : DoorRecord) (s : State) :
    (writeDoor d r s).checkOwed = s.checkOwed := by
  unfold writeDoor; dsimp only; split <;> rfl
@[simp] theorem writeDoor_departureQuiet (d : Door) (r : DoorRecord) (s : State) :
    (writeDoor d r s).departureQuiet = s.departureQuiet := by
  unfold writeDoor; dsimp only; split <;> rfl
@[simp] theorem writeDoor_ssc (d : Door) (r : DoorRecord) (s : State) :
    (writeDoor d r s).ssc = s.ssc := by
  unfold writeDoor; dsimp only; split <;> rfl
@[simp] theorem writeDoor_rlm (d : Door) (r : DoorRecord) (s : State) :
    (writeDoor d r s).rlm = s.rlm := by
  unfold writeDoor; dsimp only; split <;> rfl
@[simp] theorem writeDoor_scl (d : Door) (r : DoorRecord) (s : State) :
    (writeDoor d r s).scl = s.scl := by
  unfold writeDoor; dsimp only; split <;> rfl
@[simp] theorem writeDoor_mac (d : Door) (r : DoorRecord) (s : State) :
    (writeDoor d r s).mac = s.mac := by
  unfold writeDoor; dsimp only; split <;> rfl
@[simp] theorem writeDoor_tlp (d : Door) (r : DoorRecord) (s : State) :
    (writeDoor d r s).tlp = s.tlp := by
  unfold writeDoor; dsimp only; split <;> rfl
@[simp] theorem writeDoor_ilp (d : Door) (r : DoorRecord) (s : State) :
    (writeDoor d r s).ilp = s.ilp := by
  unfold writeDoor; dsimp only; split <;> rfl
@[simp] theorem writeDoor_slp (d : Door) (r : DoorRecord) (s : State) :
    (writeDoor d r s).slp = s.slp := by
  unfold writeDoor; dsimp only; split <;> rfl
@[simp] theorem writeDoor_sent (d : Door) (r : DoorRecord) (s : State) :
    (writeDoor d r s).sent = s.sent := by
  unfold writeDoor; dsimp only; split <;> rfl
@[simp] theorem writeDoor_summaryDue (d : Door) (r : DoorRecord) (s : State) :
    (writeDoor d r s).summaryDue = s.summaryDue := by
  unfold writeDoor; dsimp only; split <;> rfl
@[simp] theorem writeDoor_restartDue (d : Door) (r : DoorRecord) (s : State) :
    (writeDoor d r s).restartDue = s.restartDue := by
  unfold writeDoor; dsimp only; split <;> rfl
@[simp] theorem writeDoor_pending (d : Door) (r : DoorRecord) (s : State) :
    (writeDoor d r s).pending = s.pending := by
  unfold writeDoor; dsimp only; split <;> rfl
@[simp] theorem writeDoor_dlc_survey (d : Door) (r : DoorRecord) (s : State) :
    (writeDoor d r s).dlc.survey = s.dlc.survey := by
  unfold writeDoor; dsimp only; split <;> rfl
@[simp] theorem writeDoor_dlc_releaseInForce (d : Door) (r : DoorRecord) (s : State) :
    (writeDoor d r s).dlc.releaseInForce = s.dlc.releaseInForce := by
  unfold writeDoor; dsimp only; split <;> rfl
@[simp] theorem writeDoor_dlc_lastPolled (d : Door) (r : DoorRecord) (s : State) :
    (writeDoor d r s).dlc.lastPolled = s.dlc.lastPolled := by
  unfold writeDoor; dsimp only; split <;> rfl
@[simp] theorem writeDoor_dlc_awaitingReply (d : Door) (r : DoorRecord) (s : State) :
    (writeDoor d r s).dlc.awaitingReply = s.dlc.awaitingReply := by
  unfold writeDoor; dsimp only; split <;> rfl
@[simp] theorem changeDoorCore_geo (d : Door) (f : DoorRecord → DoorRecord) (s : State) :
    (changeDoorCore d f s).geo = s.geo := by
  unfold changeDoorCore; dsimp only; split <;> simp
@[simp] theorem changeDoorCore_store (d : Door) (f : DoorRecord → DoorRecord) (s : State) :
    (changeDoorCore d f s).store = s.store := by
  unfold changeDoorCore; dsimp only; split <;> simp
@[simp] theorem changeDoorCore_readerA (d : Door) (f : DoorRecord → DoorRecord) (s : State) :
    (changeDoorCore d f s).readerA = s.readerA := by
  unfold changeDoorCore; dsimp only; split <;> simp
@[simp] theorem changeDoorCore_readerB (d : Door) (f : DoorRecord → DoorRecord) (s : State) :
    (changeDoorCore d f s).readerB = s.readerB := by
  unfold changeDoorCore; dsimp only; split <;> simp
@[simp] theorem changeDoorCore_stopSettle (d : Door) (f : DoorRecord → DoorRecord) (s : State) :
    (changeDoorCore d f s).stopSettle = s.stopSettle := by
  unfold changeDoorCore; dsimp only; split <;> simp
@[simp] theorem changeDoorCore_checkOwed (d : Door) (f : DoorRecord → DoorRecord) (s : State) :
    (changeDoorCore d f s).checkOwed = s.checkOwed := by
  unfold changeDoorCore; dsimp only; split <;> simp
@[simp] theorem changeDoorCore_departureQuiet (d : Door) (f : DoorRecord → DoorRecord) (s : State) :
    (changeDoorCore d f s).departureQuiet = s.departureQuiet := by
  unfold changeDoorCore; dsimp only; split <;> simp
@[simp] theorem changeDoorCore_ssc (d : Door) (f : DoorRecord → DoorRecord) (s : State) :
    (changeDoorCore d f s).ssc = s.ssc := by
  unfold changeDoorCore; dsimp only; split <;> simp
@[simp] theorem changeDoorCore_rlm (d : Door) (f : DoorRecord → DoorRecord) (s : State) :
    (changeDoorCore d f s).rlm = s.rlm := by
  unfold changeDoorCore; dsimp only; split <;> simp
@[simp] theorem changeDoorCore_scl (d : Door) (f : DoorRecord → DoorRecord) (s : State) :
    (changeDoorCore d f s).scl = s.scl := by
  unfold changeDoorCore; dsimp only; split <;> simp
@[simp] theorem changeDoorCore_ilp (d : Door) (f : DoorRecord → DoorRecord) (s : State) :
    (changeDoorCore d f s).ilp = s.ilp := by
  unfold changeDoorCore; dsimp only; split <;> simp
@[simp] theorem changeDoorCore_sent (d : Door) (f : DoorRecord → DoorRecord) (s : State) :
    (changeDoorCore d f s).sent = s.sent := by
  unfold changeDoorCore; dsimp only; split <;> simp
@[simp] theorem changeDoorCore_restartDue (d : Door) (f : DoorRecord → DoorRecord) (s : State) :
    (changeDoorCore d f s).restartDue = s.restartDue := by
  unfold changeDoorCore; dsimp only; split <;> simp
@[simp] theorem changeDoorCore_pending (d : Door) (f : DoorRecord → DoorRecord) (s : State) :
    (changeDoorCore d f s).pending = s.pending := by
  unfold changeDoorCore; dsimp only; split <;> simp
@[simp] theorem changeDoorCore_tlp_link (d : Door) (f : DoorRecord → DoorRecord) (s : State) :
    (changeDoorCore d f s).tlp.link = s.tlp.link := by
  unfold changeDoorCore; dsimp only; split <;> simp
@[simp] theorem changeDoorCore_tlp_supervision (d : Door) (f : DoorRecord → DoorRecord) (s : State) :
    (changeDoorCore d f s).tlp.supervision = s.tlp.supervision := by
  unfold changeDoorCore; dsimp only; split <;> simp
@[simp] theorem changeDoorCore_tlp_session (d : Door) (f : DoorRecord → DoorRecord) (s : State) :
    (changeDoorCore d f s).tlp.session = s.tlp.session := by
  unfold changeDoorCore; dsimp only; split <;> simp
@[simp] theorem changeDoorCore_tlp_sessionVersion (d : Door) (f : DoorRecord → DoorRecord) (s : State) :
    (changeDoorCore d f s).tlp.sessionVersion = s.tlp.sessionVersion := by
  unfold changeDoorCore; dsimp only; split <;> simp
@[simp] theorem changeDoorCore_tlp_sessionTrainId (d : Door) (f : DoorRecord → DoorRecord) (s : State) :
    (changeDoorCore d f s).tlp.sessionTrainId = s.tlp.sessionTrainId := by
  unfold changeDoorCore; dsimp only; split <;> simp
@[simp] theorem changeDoorCore_tlp_statusTimer (d : Door) (f : DoorRecord → DoorRecord) (s : State) :
    (changeDoorCore d f s).tlp.statusTimer = s.tlp.statusTimer := by
  unfold changeDoorCore; dsimp only; split <;> simp
@[simp] theorem changeDoorCore_tlp_values (d : Door) (f : DoorRecord → DoorRecord) (s : State) :
    (changeDoorCore d f s).tlp.values = s.tlp.values := by
  unfold changeDoorCore; dsimp only; split <;> simp
@[simp] theorem changeDoorCore_tlp_reportSeq (d : Door) (f : DoorRecord → DoorRecord) (s : State) :
    (changeDoorCore d f s).tlp.reportSeq = s.tlp.reportSeq := by
  unfold changeDoorCore; dsimp only; split <;> simp
@[simp] theorem changeDoorCore_slp_link (d : Door) (f : DoorRecord → DoorRecord) (s : State) :
    (changeDoorCore d f s).slp.link = s.slp.link := by
  unfold changeDoorCore; dsimp only; split <;> simp
@[simp] theorem changeDoorCore_slp_supervision (d : Door) (f : DoorRecord → DoorRecord) (s : State) :
    (changeDoorCore d f s).slp.supervision = s.slp.supervision := by
  unfold changeDoorCore; dsimp only; split <;> simp
@[simp] theorem changeDoorCore_slp_statusTimer (d : Door) (f : DoorRecord → DoorRecord) (s : State) :
    (changeDoorCore d f s).slp.statusTimer = s.slp.statusTimer := by
  unfold changeDoorCore; dsimp only; split <;> simp
@[simp] theorem changeDoorCore_slp_enables (d : Door) (f : DoorRecord → DoorRecord) (s : State) :
    (changeDoorCore d f s).slp.enables = s.slp.enables := by
  unfold changeDoorCore; dsimp only; split <;> simp
@[simp] theorem changeDoorCore_slp_values (d : Door) (f : DoorRecord → DoorRecord) (s : State) :
    (changeDoorCore d f s).slp.values = s.slp.values := by
  unfold changeDoorCore; dsimp only; split <;> simp
@[simp] theorem changeDoorCore_slp_reportSeq (d : Door) (f : DoorRecord → DoorRecord) (s : State) :
    (changeDoorCore d f s).slp.reportSeq = s.slp.reportSeq := by
  unfold changeDoorCore; dsimp only; split <;> simp
@[simp] theorem changeDoorCore_dlc_survey (d : Door) (f : DoorRecord → DoorRecord) (s : State) :
    (changeDoorCore d f s).dlc.survey = s.dlc.survey := by
  unfold changeDoorCore; dsimp only; split <;> simp
@[simp] theorem changeDoorCore_dlc_releaseInForce (d : Door) (f : DoorRecord → DoorRecord) (s : State) :
    (changeDoorCore d f s).dlc.releaseInForce = s.dlc.releaseInForce := by
  unfold changeDoorCore; dsimp only; split <;> simp
@[simp] theorem changeDoorCore_dlc_lastPolled (d : Door) (f : DoorRecord → DoorRecord) (s : State) :
    (changeDoorCore d f s).dlc.lastPolled = s.dlc.lastPolled := by
  unfold changeDoorCore; dsimp only; split <;> simp
@[simp] theorem changeDoorCore_dlc_awaitingReply (d : Door) (f : DoorRecord → DoorRecord) (s : State) :
    (changeDoorCore d f s).dlc.awaitingReply = s.dlc.awaitingReply := by
  unfold changeDoorCore; dsimp only; split <;> simp
@[simp] theorem changeDoorCore_mac_mode (d : Door) (f : DoorRecord → DoorRecord) (s : State) :
    (changeDoorCore d f s).mac.mode = s.mac.mode := by
  unfold changeDoorCore; dsimp only; split <;> simp
@[simp] theorem changeDoorCore_mac_localSwitch (d : Door) (f : DoorRecord → DoorRecord) (s : State) :
    (changeDoorCore d f s).mac.localSwitch = s.mac.localSwitch := by
  unfold changeDoorCore; dsimp only; split <;> simp
@[simp] theorem changeDoorCore_mac_maintenanceKey (d : Door) (f : DoorRecord → DoorRecord) (s : State) :
    (changeDoorCore d f s).mac.maintenanceKey = s.mac.maintenanceKey := by
  unfold changeDoorCore; dsimp only; split <;> simp
@[simp] theorem changeDoorCore_mac_restoreKey (d : Door) (f : DoorRecord → DoorRecord) (s : State) :
    (changeDoorCore d f s).mac.restoreKey = s.mac.restoreKey := by
  unfold changeDoorCore; dsimp only; split <;> simp
@[simp] theorem changeDoorCore_mac_fireLine (d : Door) (f : DoorRecord → DoorRecord) (s : State) :
    (changeDoorCore d f s).mac.fireLine = s.mac.fireLine := by
  unfold changeDoorCore; dsimp only; split <;> simp
@[simp] theorem changeDoorCore_mac_localOpenPressed (d : Door) (f : DoorRecord → DoorRecord) (s : State) :
    (changeDoorCore d f s).mac.localOpenPressed = s.mac.localOpenPressed := by
  unfold changeDoorCore; dsimp only; split <;> simp
@[simp] theorem changeDoorCore_mac_localClosePressed (d : Door) (f : DoorRecord → DoorRecord) (s : State) :
    (changeDoorCore d f s).mac.localClosePressed = s.mac.localClosePressed := by
  unfold changeDoorCore; dsimp only; split <;> simp
@[simp] theorem changeDoorCore_mac_forceClosePressed (d : Door) (f : DoorRecord → DoorRecord) (s : State) :
    (changeDoorCore d f s).mac.forceClosePressed = s.mac.forceClosePressed := by
  unfold changeDoorCore; dsimp only; split <;> simp
@[simp] theorem changeDoorCore_mac_berthView (d : Door) (f : DoorRecord → DoorRecord) (s : State) :
    (changeDoorCore d f s).mac.berthView = s.mac.berthView := by
  unfold changeDoorCore; dsimp only; split <;> simp
@[simp] theorem changeDoorCore_mac_lastRefusal (d : Door) (f : DoorRecord → DoorRecord) (s : State) :
    (changeDoorCore d f s).mac.lastRefusal = s.mac.lastRefusal := by
  unfold changeDoorCore; dsimp only; split <;> simp
@[simp] theorem changeDoorCore_mac_refusalCount (d : Door) (f : DoorRecord → DoorRecord) (s : State) :
    (changeDoorCore d f s).mac.refusalCount = s.mac.refusalCount := by
  unfold changeDoorCore; dsimp only; split <;> simp
@[simp] theorem changeDoorCore_berth_trainId (d : Door) (f : DoorRecord → DoorRecord) (s : State) :
    (changeDoorCore d f s).berth.trainId = s.berth.trainId := by
  unfold changeDoorCore; dsimp only; split <;> simp
@[simp] theorem changeDoorCore_berth_protocolVersion (d : Door) (f : DoorRecord → DoorRecord) (s : State) :
    (changeDoorCore d f s).berth.protocolVersion = s.berth.protocolVersion := by
  unfold changeDoorCore; dsimp only; split <;> simp
@[simp] theorem changeDoorCore_berth_carCount (d : Door) (f : DoorRecord → DoorRecord) (s : State) :
    (changeDoorCore d f s).berth.carCount = s.berth.carCount := by
  unfold changeDoorCore; dsimp only; split <;> simp
@[simp] theorem changeDoorCore_berth_formationSlot (d : Door) (f : DoorRecord → DoorRecord) (s : State) :
    (changeDoorCore d f s).berth.formationSlot = s.berth.formationSlot := by
  unfold changeDoorCore; dsimp only; split <;> simp
@[simp] theorem changeDoorCore_berth_heading (d : Door) (f : DoorRecord → DoorRecord) (s : State) :
    (changeDoorCore d f s).berth.heading = s.berth.heading := by
  unfold changeDoorCore; dsimp only; split <;> simp
@[simp] theorem changeDoorCore_berth_positionSource (d : Door) (f : DoorRecord → DoorRecord) (s : State) :
    (changeDoorCore d f s).berth.positionSource = s.berth.positionSource := by
  unfold changeDoorCore; dsimp only; split <;> simp
@[simp] theorem changeDoorCore_berth_measuredFrontX (d : Door) (f : DoorRecord → DoorRecord) (s : State) :
    (changeDoorCore d f s).berth.measuredFrontX = s.berth.measuredFrontX := by
  unfold changeDoorCore; dsimp only; split <;> simp
@[simp] theorem changeDoorCore_berth_trainReportedFrontX (d : Door) (f : DoorRecord → DoorRecord) (s : State) :
    (changeDoorCore d f s).berth.trainReportedFrontX = s.berth.trainReportedFrontX := by
  unfold changeDoorCore; dsimp only; split <;> simp
@[simp] theorem changeDoorCore_berth_trainMotion (d : Door) (f : DoorRecord → DoorRecord) (s : State) :
    (changeDoorCore d f s).berth.trainMotion = s.berth.trainMotion := by
  unfold changeDoorCore; dsimp only; split <;> simp
@[simp] theorem changeDoorCore_berth_outcome (d : Door) (f : DoorRecord → DoorRecord) (s : State) :
    (changeDoorCore d f s).berth.outcome = s.berth.outcome := by
  unfold changeDoorCore; dsimp only; split <;> simp
@[simp] theorem changeDoorCore_berth_tEff (d : Door) (f : DoorRecord → DoorRecord) (s : State) :
    (changeDoorCore d f s).berth.tEff = s.berth.tEff := by
  unfold changeDoorCore; dsimp only; split <;> simp
@[simp] theorem changeDoorCore_berth_pairing (d : Door) (f : DoorRecord → DoorRecord) (s : State) :
    (changeDoorCore d f s).berth.pairing = s.berth.pairing := by
  unfold changeDoorCore; dsimp only; split <;> simp
@[simp] theorem changeDoorCore_berth_worstError (d : Door) (f : DoorRecord → DoorRecord) (s : State) :
    (changeDoorCore d f s).berth.worstError = s.berth.worstError := by
  unfold changeDoorCore; dsimp only; split <;> simp
@[simp] theorem changeDoorCore_berth_adviceError (d : Door) (f : DoorRecord → DoorRecord) (s : State) :
    (changeDoorCore d f s).berth.adviceError = s.berth.adviceError := by
  unfold changeDoorCore; dsimp only; split <;> simp
@[simp] theorem changeDoorCore_berth_authorisation (d : Door) (f : DoorRecord → DoorRecord) (s : State) :
    (changeDoorCore d f s).berth.authorisation = s.berth.authorisation := by
  unfold changeDoorCore; dsimp only; split <;> simp
@[simp] theorem changeDoorCore_berth_partialAuthorised (d : Door) (f : DoorRecord → DoorRecord) (s : State) :
    (changeDoorCore d f s).berth.partialAuthorised = s.berth.partialAuthorised := by
  unfold changeDoorCore; dsimp only; split <;> simp
@[simp] theorem changeDoorCore_berth_gapWatch (d : Door) (f : DoorRecord → DoorRecord) (s : State) :
    (changeDoorCore d f s).berth.gapWatch = s.berth.gapWatch := by
  unfold changeDoorCore; dsimp only; split <;> simp
@[simp] theorem changeDoorCore_berth_stopCount (d : Door) (f : DoorRecord → DoorRecord) (s : State) :
    (changeDoorCore d f s).berth.stopCount = s.berth.stopCount := by
  unfold changeDoorCore; dsimp only; split <;> simp
@[simp] theorem changeDoorCore_berth_linkLost (d : Door) (f : DoorRecord → DoorRecord) (s : State) :
    (changeDoorCore d f s).berth.linkLost = s.berth.linkLost := by
  unfold changeDoorCore; dsimp only; split <;> simp
@[simp] theorem changeDoorCore_berth_quiet (d : Door) (f : DoorRecord → DoorRecord) (s : State) :
    (changeDoorCore d f s).berth.quiet = s.berth.quiet := by
  unfold changeDoorCore; dsimp only; split <;> simp
@[simp] theorem changeDoorCore_berth_edgeClear (d : Door) (f : DoorRecord → DoorRecord) (s : State) :
    (changeDoorCore d f s).berth.edgeClear = s.berth.edgeClear := by
  unfold changeDoorCore; dsimp only; split <;> simp
@[simp] theorem closeCommand_geo (d : Door) (s : State) :
    (closeCommand d s).geo = s.geo := by
  unfold closeCommand; split <;> simp
@[simp] theorem closeCommand_store (d : Door) (s : State) :
    (closeCommand d s).store = s.store := by
  unfold closeCommand; split <;> simp
@[simp] theorem closeCommand_readerA (d : Door) (s : State) :
    (closeCommand d s).readerA = s.readerA := by
  unfold closeCommand; split <;> simp
@[simp] theorem closeCommand_readerB (d : Door) (s : State) :
    (closeCommand d s).readerB = s.readerB := by
  unfold closeCommand; split <;> simp
@[simp] theorem closeCommand_stopSettle (d : Door) (s : State) :
    (closeCommand d s).stopSettle = s.stopSettle := by
  unfold closeCommand; split <;> simp
@[simp] theorem closeCommand_checkOwed (d : Door) (s : State) :
    (closeCommand d s).checkOwed = s.checkOwed := by
  unfold closeCommand; split <;> simp
@[simp] theorem closeCommand_departureQuiet (d : Door) (s : State) :
    (closeCommand d s).departureQuiet = s.departureQuiet := by
  unfold closeCommand; split <;> simp
@[simp] theorem closeCommand_ssc (d : Door) (s : State) :
    (closeCommand d s).ssc = s.ssc := by
  unfold closeCommand; split <;> simp
@[simp] theorem closeCommand_rlm (d : Door) (s : State) :
    (closeCommand d s).rlm = s.rlm := by
  unfold closeCommand; split <;> simp
@[simp] theorem closeCommand_scl (d : Door) (s : State) :
    (closeCommand d s).scl = s.scl := by
  unfold closeCommand; split <;> simp
@[simp] theorem closeCommand_ilp (d : Door) (s : State) :
    (closeCommand d s).ilp = s.ilp := by
  unfold closeCommand; split <;> simp
@[simp] theorem closeCommand_sent (d : Door) (s : State) :
    (closeCommand d s).sent = s.sent := by
  unfold closeCommand; split <;> simp
@[simp] theorem closeCommand_restartDue (d : Door) (s : State) :
    (closeCommand d s).restartDue = s.restartDue := by
  unfold closeCommand; split <;> simp
@[simp] theorem closeCommand_pending (d : Door) (s : State) :
    (closeCommand d s).pending = s.pending := by
  unfold closeCommand; split <;> simp
@[simp] theorem closeCommand_tlp_link (d : Door) (s : State) :
    (closeCommand d s).tlp.link = s.tlp.link := by
  unfold closeCommand; split <;> simp
@[simp] theorem closeCommand_tlp_supervision (d : Door) (s : State) :
    (closeCommand d s).tlp.supervision = s.tlp.supervision := by
  unfold closeCommand; split <;> simp
@[simp] theorem closeCommand_tlp_session (d : Door) (s : State) :
    (closeCommand d s).tlp.session = s.tlp.session := by
  unfold closeCommand; split <;> simp
@[simp] theorem closeCommand_tlp_sessionVersion (d : Door) (s : State) :
    (closeCommand d s).tlp.sessionVersion = s.tlp.sessionVersion := by
  unfold closeCommand; split <;> simp
@[simp] theorem closeCommand_tlp_sessionTrainId (d : Door) (s : State) :
    (closeCommand d s).tlp.sessionTrainId = s.tlp.sessionTrainId := by
  unfold closeCommand; split <;> simp
@[simp] theorem closeCommand_tlp_statusTimer (d : Door) (s : State) :
    (closeCommand d s).tlp.statusTimer = s.tlp.statusTimer := by
  unfold closeCommand; split <;> simp
@[simp] theorem closeCommand_tlp_values (d : Door) (s : State) :
    (closeCommand d s).tlp.values = s.tlp.values := by
  unfold closeCommand; split <;> simp
@[simp] theorem closeCommand_tlp_reportSeq (d : Door) (s : State) :
    (closeCommand d s).tlp.reportSeq = s.tlp.reportSeq := by
  unfold closeCommand; split <;> simp
@[simp] theorem closeCommand_slp_link (d : Door) (s : State) :
    (closeCommand d s).slp.link = s.slp.link := by
  unfold closeCommand; split <;> simp
@[simp] theorem closeCommand_slp_supervision (d : Door) (s : State) :
    (closeCommand d s).slp.supervision = s.slp.supervision := by
  unfold closeCommand; split <;> simp
@[simp] theorem closeCommand_slp_statusTimer (d : Door) (s : State) :
    (closeCommand d s).slp.statusTimer = s.slp.statusTimer := by
  unfold closeCommand; split <;> simp
@[simp] theorem closeCommand_slp_enables (d : Door) (s : State) :
    (closeCommand d s).slp.enables = s.slp.enables := by
  unfold closeCommand; split <;> simp
@[simp] theorem closeCommand_slp_values (d : Door) (s : State) :
    (closeCommand d s).slp.values = s.slp.values := by
  unfold closeCommand; split <;> simp
@[simp] theorem closeCommand_slp_reportSeq (d : Door) (s : State) :
    (closeCommand d s).slp.reportSeq = s.slp.reportSeq := by
  unfold closeCommand; split <;> simp
@[simp] theorem closeCommand_dlc_survey (d : Door) (s : State) :
    (closeCommand d s).dlc.survey = s.dlc.survey := by
  unfold closeCommand; split <;> simp
@[simp] theorem closeCommand_dlc_releaseInForce (d : Door) (s : State) :
    (closeCommand d s).dlc.releaseInForce = s.dlc.releaseInForce := by
  unfold closeCommand; split <;> simp
@[simp] theorem closeCommand_dlc_lastPolled (d : Door) (s : State) :
    (closeCommand d s).dlc.lastPolled = s.dlc.lastPolled := by
  unfold closeCommand; split <;> simp
@[simp] theorem closeCommand_dlc_awaitingReply (d : Door) (s : State) :
    (closeCommand d s).dlc.awaitingReply = s.dlc.awaitingReply := by
  unfold closeCommand; split <;> simp
@[simp] theorem closeCommand_mac_mode (d : Door) (s : State) :
    (closeCommand d s).mac.mode = s.mac.mode := by
  unfold closeCommand; split <;> simp
@[simp] theorem closeCommand_mac_localSwitch (d : Door) (s : State) :
    (closeCommand d s).mac.localSwitch = s.mac.localSwitch := by
  unfold closeCommand; split <;> simp
@[simp] theorem closeCommand_mac_maintenanceKey (d : Door) (s : State) :
    (closeCommand d s).mac.maintenanceKey = s.mac.maintenanceKey := by
  unfold closeCommand; split <;> simp
@[simp] theorem closeCommand_mac_restoreKey (d : Door) (s : State) :
    (closeCommand d s).mac.restoreKey = s.mac.restoreKey := by
  unfold closeCommand; split <;> simp
@[simp] theorem closeCommand_mac_fireLine (d : Door) (s : State) :
    (closeCommand d s).mac.fireLine = s.mac.fireLine := by
  unfold closeCommand; split <;> simp
@[simp] theorem closeCommand_mac_localOpenPressed (d : Door) (s : State) :
    (closeCommand d s).mac.localOpenPressed = s.mac.localOpenPressed := by
  unfold closeCommand; split <;> simp
@[simp] theorem closeCommand_mac_localClosePressed (d : Door) (s : State) :
    (closeCommand d s).mac.localClosePressed = s.mac.localClosePressed := by
  unfold closeCommand; split <;> simp
@[simp] theorem closeCommand_mac_forceClosePressed (d : Door) (s : State) :
    (closeCommand d s).mac.forceClosePressed = s.mac.forceClosePressed := by
  unfold closeCommand; split <;> simp
@[simp] theorem closeCommand_mac_berthView (d : Door) (s : State) :
    (closeCommand d s).mac.berthView = s.mac.berthView := by
  unfold closeCommand; split <;> simp
@[simp] theorem closeCommand_mac_lastRefusal (d : Door) (s : State) :
    (closeCommand d s).mac.lastRefusal = s.mac.lastRefusal := by
  unfold closeCommand; split <;> simp
@[simp] theorem closeCommand_mac_refusalCount (d : Door) (s : State) :
    (closeCommand d s).mac.refusalCount = s.mac.refusalCount := by
  unfold closeCommand; split <;> simp
@[simp] theorem closeCommand_berth_trainId (d : Door) (s : State) :
    (closeCommand d s).berth.trainId = s.berth.trainId := by
  unfold closeCommand; split <;> simp
@[simp] theorem closeCommand_berth_protocolVersion (d : Door) (s : State) :
    (closeCommand d s).berth.protocolVersion = s.berth.protocolVersion := by
  unfold closeCommand; split <;> simp
@[simp] theorem closeCommand_berth_carCount (d : Door) (s : State) :
    (closeCommand d s).berth.carCount = s.berth.carCount := by
  unfold closeCommand; split <;> simp
@[simp] theorem closeCommand_berth_formationSlot (d : Door) (s : State) :
    (closeCommand d s).berth.formationSlot = s.berth.formationSlot := by
  unfold closeCommand; split <;> simp
@[simp] theorem closeCommand_berth_heading (d : Door) (s : State) :
    (closeCommand d s).berth.heading = s.berth.heading := by
  unfold closeCommand; split <;> simp
@[simp] theorem closeCommand_berth_positionSource (d : Door) (s : State) :
    (closeCommand d s).berth.positionSource = s.berth.positionSource := by
  unfold closeCommand; split <;> simp
@[simp] theorem closeCommand_berth_measuredFrontX (d : Door) (s : State) :
    (closeCommand d s).berth.measuredFrontX = s.berth.measuredFrontX := by
  unfold closeCommand; split <;> simp
@[simp] theorem closeCommand_berth_trainReportedFrontX (d : Door) (s : State) :
    (closeCommand d s).berth.trainReportedFrontX = s.berth.trainReportedFrontX := by
  unfold closeCommand; split <;> simp
@[simp] theorem closeCommand_berth_trainMotion (d : Door) (s : State) :
    (closeCommand d s).berth.trainMotion = s.berth.trainMotion := by
  unfold closeCommand; split <;> simp
@[simp] theorem closeCommand_berth_outcome (d : Door) (s : State) :
    (closeCommand d s).berth.outcome = s.berth.outcome := by
  unfold closeCommand; split <;> simp
@[simp] theorem closeCommand_berth_tEff (d : Door) (s : State) :
    (closeCommand d s).berth.tEff = s.berth.tEff := by
  unfold closeCommand; split <;> simp
@[simp] theorem closeCommand_berth_pairing (d : Door) (s : State) :
    (closeCommand d s).berth.pairing = s.berth.pairing := by
  unfold closeCommand; split <;> simp
@[simp] theorem closeCommand_berth_worstError (d : Door) (s : State) :
    (closeCommand d s).berth.worstError = s.berth.worstError := by
  unfold closeCommand; split <;> simp
@[simp] theorem closeCommand_berth_adviceError (d : Door) (s : State) :
    (closeCommand d s).berth.adviceError = s.berth.adviceError := by
  unfold closeCommand; split <;> simp
@[simp] theorem closeCommand_berth_authorisation (d : Door) (s : State) :
    (closeCommand d s).berth.authorisation = s.berth.authorisation := by
  unfold closeCommand; split <;> simp
@[simp] theorem closeCommand_berth_partialAuthorised (d : Door) (s : State) :
    (closeCommand d s).berth.partialAuthorised = s.berth.partialAuthorised := by
  unfold closeCommand; split <;> simp
@[simp] theorem closeCommand_berth_gapWatch (d : Door) (s : State) :
    (closeCommand d s).berth.gapWatch = s.berth.gapWatch := by
  unfold closeCommand; split <;> simp
@[simp] theorem closeCommand_berth_stopCount (d : Door) (s : State) :
    (closeCommand d s).berth.stopCount = s.berth.stopCount := by
  unfold closeCommand; split <;> simp
@[simp] theorem closeCommand_berth_linkLost (d : Door) (s : State) :
    (closeCommand d s).berth.linkLost = s.berth.linkLost := by
  unfold closeCommand; split <;> simp
@[simp] theorem closeCommand_berth_quiet (d : Door) (s : State) :
    (closeCommand d s).berth.quiet = s.berth.quiet := by
  unfold closeCommand; split <;> simp
@[simp] theorem closeCommand_berth_edgeClear (d : Door) (s : State) :
    (closeCommand d s).berth.edgeClear = s.berth.edgeClear := by
  unfold closeCommand; split <;> simp
@[simp] theorem changeDoor_geo (d : Door) (f : DoorRecord → DoorRecord) (s : State) :
    (changeDoor d f s).geo = s.geo := by
  unfold changeDoor; dsimp only; split <;> simp
@[simp] theorem changeDoor_store (d : Door) (f : DoorRecord → DoorRecord) (s : State) :
    (changeDoor d f s).store = s.store := by
  unfold changeDoor; dsimp only; split <;> simp
@[simp] theorem changeDoor_readerA (d : Door) (f : DoorRecord → DoorRecord) (s : State) :
    (changeDoor d f s).readerA = s.readerA := by
  unfold changeDoor; dsimp only; split <;> simp
@[simp] theorem changeDoor_readerB (d : Door) (f : DoorRecord → DoorRecord) (s : State) :
    (changeDoor d f s).readerB = s.readerB := by
  unfold changeDoor; dsimp only; split <;> simp
@[simp] theorem changeDoor_stopSettle (d : Door) (f : DoorRecord → DoorRecord) (s : State) :
    (changeDoor d f s).stopSettle = s.stopSettle := by
  unfold changeDoor; dsimp only; split <;> simp
@[simp] theorem changeDoor_checkOwed (d : Door) (f : DoorRecord → DoorRecord) (s : State) :
    (changeDoor d f s).checkOwed = s.checkOwed := by
  unfold changeDoor; dsimp only; split <;> simp
@[simp] theorem changeDoor_departureQuiet (d : Door) (f : DoorRecord → DoorRecord) (s : State) :
    (changeDoor d f s).departureQuiet = s.departureQuiet := by
  unfold changeDoor; dsimp only; split <;> simp
@[simp] theorem changeDoor_ssc (d : Door) (f : DoorRecord → DoorRecord) (s : State) :
    (changeDoor d f s).ssc = s.ssc := by
  unfold changeDoor; dsimp only; split <;> simp
@[simp] theorem changeDoor_rlm (d : Door) (f : DoorRecord → DoorRecord) (s : State) :
    (changeDoor d f s).rlm = s.rlm := by
  unfold changeDoor; dsimp only; split <;> simp
@[simp] theorem changeDoor_scl (d : Door) (f : DoorRecord → DoorRecord) (s : State) :
    (changeDoor d f s).scl = s.scl := by
  unfold changeDoor; dsimp only; split <;> simp
@[simp] theorem changeDoor_ilp (d : Door) (f : DoorRecord → DoorRecord) (s : State) :
    (changeDoor d f s).ilp = s.ilp := by
  unfold changeDoor; dsimp only; split <;> simp
@[simp] theorem changeDoor_sent (d : Door) (f : DoorRecord → DoorRecord) (s : State) :
    (changeDoor d f s).sent = s.sent := by
  unfold changeDoor; dsimp only; split <;> simp
@[simp] theorem changeDoor_restartDue (d : Door) (f : DoorRecord → DoorRecord) (s : State) :
    (changeDoor d f s).restartDue = s.restartDue := by
  unfold changeDoor; dsimp only; split <;> simp
@[simp] theorem changeDoor_pending (d : Door) (f : DoorRecord → DoorRecord) (s : State) :
    (changeDoor d f s).pending = s.pending := by
  unfold changeDoor; dsimp only; split <;> simp
@[simp] theorem changeDoor_tlp_link (d : Door) (f : DoorRecord → DoorRecord) (s : State) :
    (changeDoor d f s).tlp.link = s.tlp.link := by
  unfold changeDoor; dsimp only; split <;> simp
@[simp] theorem changeDoor_tlp_supervision (d : Door) (f : DoorRecord → DoorRecord) (s : State) :
    (changeDoor d f s).tlp.supervision = s.tlp.supervision := by
  unfold changeDoor; dsimp only; split <;> simp
@[simp] theorem changeDoor_tlp_session (d : Door) (f : DoorRecord → DoorRecord) (s : State) :
    (changeDoor d f s).tlp.session = s.tlp.session := by
  unfold changeDoor; dsimp only; split <;> simp
@[simp] theorem changeDoor_tlp_sessionVersion (d : Door) (f : DoorRecord → DoorRecord) (s : State) :
    (changeDoor d f s).tlp.sessionVersion = s.tlp.sessionVersion := by
  unfold changeDoor; dsimp only; split <;> simp
@[simp] theorem changeDoor_tlp_sessionTrainId (d : Door) (f : DoorRecord → DoorRecord) (s : State) :
    (changeDoor d f s).tlp.sessionTrainId = s.tlp.sessionTrainId := by
  unfold changeDoor; dsimp only; split <;> simp
@[simp] theorem changeDoor_tlp_statusTimer (d : Door) (f : DoorRecord → DoorRecord) (s : State) :
    (changeDoor d f s).tlp.statusTimer = s.tlp.statusTimer := by
  unfold changeDoor; dsimp only; split <;> simp
@[simp] theorem changeDoor_tlp_values (d : Door) (f : DoorRecord → DoorRecord) (s : State) :
    (changeDoor d f s).tlp.values = s.tlp.values := by
  unfold changeDoor; dsimp only; split <;> simp
@[simp] theorem changeDoor_tlp_reportSeq (d : Door) (f : DoorRecord → DoorRecord) (s : State) :
    (changeDoor d f s).tlp.reportSeq = s.tlp.reportSeq := by
  unfold changeDoor; dsimp only; split <;> simp
@[simp] theorem changeDoor_slp_link (d : Door) (f : DoorRecord → DoorRecord) (s : State) :
    (changeDoor d f s).slp.link = s.slp.link := by
  unfold changeDoor; dsimp only; split <;> simp
@[simp] theorem changeDoor_slp_supervision (d : Door) (f : DoorRecord → DoorRecord) (s : State) :
    (changeDoor d f s).slp.supervision = s.slp.supervision := by
  unfold changeDoor; dsimp only; split <;> simp
@[simp] theorem changeDoor_slp_statusTimer (d : Door) (f : DoorRecord → DoorRecord) (s : State) :
    (changeDoor d f s).slp.statusTimer = s.slp.statusTimer := by
  unfold changeDoor; dsimp only; split <;> simp
@[simp] theorem changeDoor_slp_enables (d : Door) (f : DoorRecord → DoorRecord) (s : State) :
    (changeDoor d f s).slp.enables = s.slp.enables := by
  unfold changeDoor; dsimp only; split <;> simp
@[simp] theorem changeDoor_slp_values (d : Door) (f : DoorRecord → DoorRecord) (s : State) :
    (changeDoor d f s).slp.values = s.slp.values := by
  unfold changeDoor; dsimp only; split <;> simp
@[simp] theorem changeDoor_slp_reportSeq (d : Door) (f : DoorRecord → DoorRecord) (s : State) :
    (changeDoor d f s).slp.reportSeq = s.slp.reportSeq := by
  unfold changeDoor; dsimp only; split <;> simp
@[simp] theorem changeDoor_dlc_survey (d : Door) (f : DoorRecord → DoorRecord) (s : State) :
    (changeDoor d f s).dlc.survey = s.dlc.survey := by
  unfold changeDoor; dsimp only; split <;> simp
@[simp] theorem changeDoor_dlc_releaseInForce (d : Door) (f : DoorRecord → DoorRecord) (s : State) :
    (changeDoor d f s).dlc.releaseInForce = s.dlc.releaseInForce := by
  unfold changeDoor; dsimp only; split <;> simp
@[simp] theorem changeDoor_dlc_lastPolled (d : Door) (f : DoorRecord → DoorRecord) (s : State) :
    (changeDoor d f s).dlc.lastPolled = s.dlc.lastPolled := by
  unfold changeDoor; dsimp only; split <;> simp
@[simp] theorem changeDoor_dlc_awaitingReply (d : Door) (f : DoorRecord → DoorRecord) (s : State) :
    (changeDoor d f s).dlc.awaitingReply = s.dlc.awaitingReply := by
  unfold changeDoor; dsimp only; split <;> simp
@[simp] theorem changeDoor_mac_mode (d : Door) (f : DoorRecord → DoorRecord) (s : State) :
    (changeDoor d f s).mac.mode = s.mac.mode := by
  unfold changeDoor; dsimp only; split <;> simp
@[simp] theorem changeDoor_mac_localSwitch (d : Door) (f : DoorRecord → DoorRecord) (s : State) :
    (changeDoor d f s).mac.localSwitch = s.mac.localSwitch := by
  unfold changeDoor; dsimp only; split <;> simp
@[simp] theorem changeDoor_mac_maintenanceKey (d : Door) (f : DoorRecord → DoorRecord) (s : State) :
    (changeDoor d f s).mac.maintenanceKey = s.mac.maintenanceKey := by
  unfold changeDoor; dsimp only; split <;> simp
@[simp] theorem changeDoor_mac_restoreKey (d : Door) (f : DoorRecord → DoorRecord) (s : State) :
    (changeDoor d f s).mac.restoreKey = s.mac.restoreKey := by
  unfold changeDoor; dsimp only; split <;> simp
@[simp] theorem changeDoor_mac_fireLine (d : Door) (f : DoorRecord → DoorRecord) (s : State) :
    (changeDoor d f s).mac.fireLine = s.mac.fireLine := by
  unfold changeDoor; dsimp only; split <;> simp
@[simp] theorem changeDoor_mac_localOpenPressed (d : Door) (f : DoorRecord → DoorRecord) (s : State) :
    (changeDoor d f s).mac.localOpenPressed = s.mac.localOpenPressed := by
  unfold changeDoor; dsimp only; split <;> simp
@[simp] theorem changeDoor_mac_localClosePressed (d : Door) (f : DoorRecord → DoorRecord) (s : State) :
    (changeDoor d f s).mac.localClosePressed = s.mac.localClosePressed := by
  unfold changeDoor; dsimp only; split <;> simp
@[simp] theorem changeDoor_mac_forceClosePressed (d : Door) (f : DoorRecord → DoorRecord) (s : State) :
    (changeDoor d f s).mac.forceClosePressed = s.mac.forceClosePressed := by
  unfold changeDoor; dsimp only; split <;> simp
@[simp] theorem changeDoor_mac_berthView (d : Door) (f : DoorRecord → DoorRecord) (s : State) :
    (changeDoor d f s).mac.berthView = s.mac.berthView := by
  unfold changeDoor; dsimp only; split <;> simp
@[simp] theorem changeDoor_mac_lastRefusal (d : Door) (f : DoorRecord → DoorRecord) (s : State) :
    (changeDoor d f s).mac.lastRefusal = s.mac.lastRefusal := by
  unfold changeDoor; dsimp only; split <;> simp
@[simp] theorem changeDoor_mac_refusalCount (d : Door) (f : DoorRecord → DoorRecord) (s : State) :
    (changeDoor d f s).mac.refusalCount = s.mac.refusalCount := by
  unfold changeDoor; dsimp only; split <;> simp
@[simp] theorem changeDoor_berth_trainId (d : Door) (f : DoorRecord → DoorRecord) (s : State) :
    (changeDoor d f s).berth.trainId = s.berth.trainId := by
  unfold changeDoor; dsimp only; split <;> simp
@[simp] theorem changeDoor_berth_protocolVersion (d : Door) (f : DoorRecord → DoorRecord) (s : State) :
    (changeDoor d f s).berth.protocolVersion = s.berth.protocolVersion := by
  unfold changeDoor; dsimp only; split <;> simp
@[simp] theorem changeDoor_berth_carCount (d : Door) (f : DoorRecord → DoorRecord) (s : State) :
    (changeDoor d f s).berth.carCount = s.berth.carCount := by
  unfold changeDoor; dsimp only; split <;> simp
@[simp] theorem changeDoor_berth_formationSlot (d : Door) (f : DoorRecord → DoorRecord) (s : State) :
    (changeDoor d f s).berth.formationSlot = s.berth.formationSlot := by
  unfold changeDoor; dsimp only; split <;> simp
@[simp] theorem changeDoor_berth_heading (d : Door) (f : DoorRecord → DoorRecord) (s : State) :
    (changeDoor d f s).berth.heading = s.berth.heading := by
  unfold changeDoor; dsimp only; split <;> simp
@[simp] theorem changeDoor_berth_positionSource (d : Door) (f : DoorRecord → DoorRecord) (s : State) :
    (changeDoor d f s).berth.positionSource = s.berth.positionSource := by
  unfold changeDoor; dsimp only; split <;> simp
@[simp] theorem changeDoor_berth_measuredFrontX (d : Door) (f : DoorRecord → DoorRecord) (s : State) :
    (changeDoor d f s).berth.measuredFrontX = s.berth.measuredFrontX := by
  unfold changeDoor; dsimp only; split <;> simp
@[simp] theorem changeDoor_berth_trainReportedFrontX (d : Door) (f : DoorRecord → DoorRecord) (s : State) :
    (changeDoor d f s).berth.trainReportedFrontX = s.berth.trainReportedFrontX := by
  unfold changeDoor; dsimp only; split <;> simp
@[simp] theorem changeDoor_berth_trainMotion (d : Door) (f : DoorRecord → DoorRecord) (s : State) :
    (changeDoor d f s).berth.trainMotion = s.berth.trainMotion := by
  unfold changeDoor; dsimp only; split <;> simp
@[simp] theorem changeDoor_berth_outcome (d : Door) (f : DoorRecord → DoorRecord) (s : State) :
    (changeDoor d f s).berth.outcome = s.berth.outcome := by
  unfold changeDoor; dsimp only; split <;> simp
@[simp] theorem changeDoor_berth_tEff (d : Door) (f : DoorRecord → DoorRecord) (s : State) :
    (changeDoor d f s).berth.tEff = s.berth.tEff := by
  unfold changeDoor; dsimp only; split <;> simp
@[simp] theorem changeDoor_berth_pairing (d : Door) (f : DoorRecord → DoorRecord) (s : State) :
    (changeDoor d f s).berth.pairing = s.berth.pairing := by
  unfold changeDoor; dsimp only; split <;> simp
@[simp] theorem changeDoor_berth_worstError (d : Door) (f : DoorRecord → DoorRecord) (s : State) :
    (changeDoor d f s).berth.worstError = s.berth.worstError := by
  unfold changeDoor; dsimp only; split <;> simp
@[simp] theorem changeDoor_berth_adviceError (d : Door) (f : DoorRecord → DoorRecord) (s : State) :
    (changeDoor d f s).berth.adviceError = s.berth.adviceError := by
  unfold changeDoor; dsimp only; split <;> simp
@[simp] theorem changeDoor_berth_authorisation (d : Door) (f : DoorRecord → DoorRecord) (s : State) :
    (changeDoor d f s).berth.authorisation = s.berth.authorisation := by
  unfold changeDoor; dsimp only; split <;> simp
@[simp] theorem changeDoor_berth_partialAuthorised (d : Door) (f : DoorRecord → DoorRecord) (s : State) :
    (changeDoor d f s).berth.partialAuthorised = s.berth.partialAuthorised := by
  unfold changeDoor; dsimp only; split <;> simp
@[simp] theorem changeDoor_berth_gapWatch (d : Door) (f : DoorRecord → DoorRecord) (s : State) :
    (changeDoor d f s).berth.gapWatch = s.berth.gapWatch := by
  unfold changeDoor; dsimp only; split <;> simp
@[simp] theorem changeDoor_berth_stopCount (d : Door) (f : DoorRecord → DoorRecord) (s : State) :
    (changeDoor d f s).berth.stopCount = s.berth.stopCount := by
  unfold changeDoor; dsimp only; split <;> simp
@[simp] theorem changeDoor_berth_linkLost (d : Door) (f : DoorRecord → DoorRecord) (s : State) :
    (changeDoor d f s).berth.linkLost = s.berth.linkLost := by
  unfold changeDoor; dsimp only; split <;> simp
@[simp] theorem changeDoor_berth_quiet (d : Door) (f : DoorRecord → DoorRecord) (s : State) :
    (changeDoor d f s).berth.quiet = s.berth.quiet := by
  unfold changeDoor; dsimp only; split <;> simp
@[simp] theorem changeDoor_berth_edgeClear (d : Door) (f : DoorRecord → DoorRecord) (s : State) :
    (changeDoor d f s).berth.edgeClear = s.berth.edgeClear := by
  unfold changeDoor; dsimp only; split <;> simp
@[simp] theorem openCommand_geo (d : Door) (s : State) :
    (openCommand d s).geo = s.geo := by
  simp [openCommand]
@[simp] theorem openCommand_store (d : Door) (s : State) :
    (openCommand d s).store = s.store := by
  simp [openCommand]
@[simp] theorem openCommand_readerA (d : Door) (s : State) :
    (openCommand d s).readerA = s.readerA := by
  simp [openCommand]
@[simp] theorem openCommand_readerB (d : Door) (s : State) :
    (openCommand d s).readerB = s.readerB := by
  simp [openCommand]
@[simp] theorem openCommand_stopSettle (d : Door) (s : State) :
    (openCommand d s).stopSettle = s.stopSettle := by
  simp [openCommand]
@[simp] theorem openCommand_checkOwed (d : Door) (s : State) :
    (openCommand d s).checkOwed = s.checkOwed := by
  simp [openCommand]
@[simp] theorem openCommand_departureQuiet (d : Door) (s : State) :
    (openCommand d s).departureQuiet = s.departureQuiet := by
  simp [openCommand]
@[simp] theorem openCommand_ssc (d : Door) (s : State) :
    (openCommand d s).ssc = s.ssc := by
  simp [openCommand]
@[simp] theorem openCommand_rlm (d : Door) (s : State) :
    (openCommand d s).rlm = s.rlm := by
  simp [openCommand]
@[simp] theorem openCommand_scl (d : Door) (s : State) :
    (openCommand d s).scl = s.scl := by
  simp [openCommand]
@[simp] theorem openCommand_ilp (d : Door) (s : State) :
    (openCommand d s).ilp = s.ilp := by
  simp [openCommand]
@[simp] theorem openCommand_sent (d : Door) (s : State) :
    (openCommand d s).sent = s.sent := by
  simp [openCommand]
@[simp] theorem openCommand_restartDue (d : Door) (s : State) :
    (openCommand d s).restartDue = s.restartDue := by
  simp [openCommand]
@[simp] theorem openCommand_pending (d : Door) (s : State) :
    (openCommand d s).pending = s.pending := by
  simp [openCommand]
@[simp] theorem openCommand_tlp_link (d : Door) (s : State) :
    (openCommand d s).tlp.link = s.tlp.link := by
  simp [openCommand]
@[simp] theorem openCommand_tlp_supervision (d : Door) (s : State) :
    (openCommand d s).tlp.supervision = s.tlp.supervision := by
  simp [openCommand]
@[simp] theorem openCommand_tlp_session (d : Door) (s : State) :
    (openCommand d s).tlp.session = s.tlp.session := by
  simp [openCommand]
@[simp] theorem openCommand_tlp_sessionVersion (d : Door) (s : State) :
    (openCommand d s).tlp.sessionVersion = s.tlp.sessionVersion := by
  simp [openCommand]
@[simp] theorem openCommand_tlp_sessionTrainId (d : Door) (s : State) :
    (openCommand d s).tlp.sessionTrainId = s.tlp.sessionTrainId := by
  simp [openCommand]
@[simp] theorem openCommand_tlp_statusTimer (d : Door) (s : State) :
    (openCommand d s).tlp.statusTimer = s.tlp.statusTimer := by
  simp [openCommand]
@[simp] theorem openCommand_tlp_values (d : Door) (s : State) :
    (openCommand d s).tlp.values = s.tlp.values := by
  simp [openCommand]
@[simp] theorem openCommand_tlp_reportSeq (d : Door) (s : State) :
    (openCommand d s).tlp.reportSeq = s.tlp.reportSeq := by
  simp [openCommand]
@[simp] theorem openCommand_slp_link (d : Door) (s : State) :
    (openCommand d s).slp.link = s.slp.link := by
  simp [openCommand]
@[simp] theorem openCommand_slp_supervision (d : Door) (s : State) :
    (openCommand d s).slp.supervision = s.slp.supervision := by
  simp [openCommand]
@[simp] theorem openCommand_slp_statusTimer (d : Door) (s : State) :
    (openCommand d s).slp.statusTimer = s.slp.statusTimer := by
  simp [openCommand]
@[simp] theorem openCommand_slp_enables (d : Door) (s : State) :
    (openCommand d s).slp.enables = s.slp.enables := by
  simp [openCommand]
@[simp] theorem openCommand_slp_values (d : Door) (s : State) :
    (openCommand d s).slp.values = s.slp.values := by
  simp [openCommand]
@[simp] theorem openCommand_slp_reportSeq (d : Door) (s : State) :
    (openCommand d s).slp.reportSeq = s.slp.reportSeq := by
  simp [openCommand]
@[simp] theorem openCommand_dlc_survey (d : Door) (s : State) :
    (openCommand d s).dlc.survey = s.dlc.survey := by
  simp [openCommand]
@[simp] theorem openCommand_dlc_releaseInForce (d : Door) (s : State) :
    (openCommand d s).dlc.releaseInForce = s.dlc.releaseInForce := by
  simp [openCommand]
@[simp] theorem openCommand_dlc_lastPolled (d : Door) (s : State) :
    (openCommand d s).dlc.lastPolled = s.dlc.lastPolled := by
  simp [openCommand]
@[simp] theorem openCommand_dlc_awaitingReply (d : Door) (s : State) :
    (openCommand d s).dlc.awaitingReply = s.dlc.awaitingReply := by
  simp [openCommand]
@[simp] theorem openCommand_mac_mode (d : Door) (s : State) :
    (openCommand d s).mac.mode = s.mac.mode := by
  simp [openCommand]
@[simp] theorem openCommand_mac_localSwitch (d : Door) (s : State) :
    (openCommand d s).mac.localSwitch = s.mac.localSwitch := by
  simp [openCommand]
@[simp] theorem openCommand_mac_maintenanceKey (d : Door) (s : State) :
    (openCommand d s).mac.maintenanceKey = s.mac.maintenanceKey := by
  simp [openCommand]
@[simp] theorem openCommand_mac_restoreKey (d : Door) (s : State) :
    (openCommand d s).mac.restoreKey = s.mac.restoreKey := by
  simp [openCommand]
@[simp] theorem openCommand_mac_fireLine (d : Door) (s : State) :
    (openCommand d s).mac.fireLine = s.mac.fireLine := by
  simp [openCommand]
@[simp] theorem openCommand_mac_localOpenPressed (d : Door) (s : State) :
    (openCommand d s).mac.localOpenPressed = s.mac.localOpenPressed := by
  simp [openCommand]
@[simp] theorem openCommand_mac_localClosePressed (d : Door) (s : State) :
    (openCommand d s).mac.localClosePressed = s.mac.localClosePressed := by
  simp [openCommand]
@[simp] theorem openCommand_mac_forceClosePressed (d : Door) (s : State) :
    (openCommand d s).mac.forceClosePressed = s.mac.forceClosePressed := by
  simp [openCommand]
@[simp] theorem openCommand_mac_berthView (d : Door) (s : State) :
    (openCommand d s).mac.berthView = s.mac.berthView := by
  simp [openCommand]
@[simp] theorem openCommand_mac_lastRefusal (d : Door) (s : State) :
    (openCommand d s).mac.lastRefusal = s.mac.lastRefusal := by
  simp [openCommand]
@[simp] theorem openCommand_mac_refusalCount (d : Door) (s : State) :
    (openCommand d s).mac.refusalCount = s.mac.refusalCount := by
  simp [openCommand]
@[simp] theorem openCommand_berth_trainId (d : Door) (s : State) :
    (openCommand d s).berth.trainId = s.berth.trainId := by
  simp [openCommand]
@[simp] theorem openCommand_berth_protocolVersion (d : Door) (s : State) :
    (openCommand d s).berth.protocolVersion = s.berth.protocolVersion := by
  simp [openCommand]
@[simp] theorem openCommand_berth_carCount (d : Door) (s : State) :
    (openCommand d s).berth.carCount = s.berth.carCount := by
  simp [openCommand]
@[simp] theorem openCommand_berth_formationSlot (d : Door) (s : State) :
    (openCommand d s).berth.formationSlot = s.berth.formationSlot := by
  simp [openCommand]
@[simp] theorem openCommand_berth_heading (d : Door) (s : State) :
    (openCommand d s).berth.heading = s.berth.heading := by
  simp [openCommand]
@[simp] theorem openCommand_berth_positionSource (d : Door) (s : State) :
    (openCommand d s).berth.positionSource = s.berth.positionSource := by
  simp [openCommand]
@[simp] theorem openCommand_berth_measuredFrontX (d : Door) (s : State) :
    (openCommand d s).berth.measuredFrontX = s.berth.measuredFrontX := by
  simp [openCommand]
@[simp] theorem openCommand_berth_trainReportedFrontX (d : Door) (s : State) :
    (openCommand d s).berth.trainReportedFrontX = s.berth.trainReportedFrontX := by
  simp [openCommand]
@[simp] theorem openCommand_berth_trainMotion (d : Door) (s : State) :
    (openCommand d s).berth.trainMotion = s.berth.trainMotion := by
  simp [openCommand]
@[simp] theorem openCommand_berth_outcome (d : Door) (s : State) :
    (openCommand d s).berth.outcome = s.berth.outcome := by
  simp [openCommand]
@[simp] theorem openCommand_berth_tEff (d : Door) (s : State) :
    (openCommand d s).berth.tEff = s.berth.tEff := by
  simp [openCommand]
@[simp] theorem openCommand_berth_pairing (d : Door) (s : State) :
    (openCommand d s).berth.pairing = s.berth.pairing := by
  simp [openCommand]
@[simp] theorem openCommand_berth_worstError (d : Door) (s : State) :
    (openCommand d s).berth.worstError = s.berth.worstError := by
  simp [openCommand]
@[simp] theorem openCommand_berth_adviceError (d : Door) (s : State) :
    (openCommand d s).berth.adviceError = s.berth.adviceError := by
  simp [openCommand]
@[simp] theorem openCommand_berth_authorisation (d : Door) (s : State) :
    (openCommand d s).berth.authorisation = s.berth.authorisation := by
  simp [openCommand]
@[simp] theorem openCommand_berth_partialAuthorised (d : Door) (s : State) :
    (openCommand d s).berth.partialAuthorised = s.berth.partialAuthorised := by
  simp [openCommand]
@[simp] theorem openCommand_berth_gapWatch (d : Door) (s : State) :
    (openCommand d s).berth.gapWatch = s.berth.gapWatch := by
  simp [openCommand]
@[simp] theorem openCommand_berth_stopCount (d : Door) (s : State) :
    (openCommand d s).berth.stopCount = s.berth.stopCount := by
  simp [openCommand]
@[simp] theorem openCommand_berth_linkLost (d : Door) (s : State) :
    (openCommand d s).berth.linkLost = s.berth.linkLost := by
  simp [openCommand]
@[simp] theorem openCommand_berth_quiet (d : Door) (s : State) :
    (openCommand d s).berth.quiet = s.berth.quiet := by
  simp [openCommand]
@[simp] theorem openCommand_berth_edgeClear (d : Door) (s : State) :
    (openCommand d s).berth.edgeClear = s.berth.edgeClear := by
  simp [openCommand]

/-! ## The door table -/

@[simp] theorem doorAt_setMark (e d : Door) (s : State) : doorAt (setMark d s) e = doorAt s e := rfl
@[simp] theorem writeDoor_self (d : Door) (r : DoorRecord) (s : State) : doorAt (writeDoor d r s) d = r := by
  unfold writeDoor; dsimp only; split <;> simp
theorem writeDoor_other {d e : Door} (r : DoorRecord) (s : State) (h : d ≠ e) :
    doorAt (writeDoor d r s) e = doorAt s e := by
  unfold writeDoor; dsimp only; split <;> simp [doorAt_putDoor_ne _ _ h]

theorem changeDoorCore_dlc (d : Door) (f : DoorRecord → DoorRecord) (s : State) :
    (changeDoorCore d f s).dlc = (writeDoor d (f (doorAt s d)) s).dlc := by
  unfold changeDoorCore; dsimp only; split <;> simp

@[simp] theorem changeDoorCore_self (d : Door) (f : DoorRecord → DoorRecord) (s : State) :
    doorAt (changeDoorCore d f s) d = f (doorAt s d) := by
  have h := writeDoor_self d (f (doorAt s d)) s
  unfold doorAt at h ⊢
  rw [changeDoorCore_dlc]
  exact h

theorem changeDoorCore_other {d e : Door} (f : DoorRecord → DoorRecord) (s : State) (h : d ≠ e) :
    doorAt (changeDoorCore d f s) e = doorAt s e := by
  have h := writeDoor_other (f (doorAt s d)) s h
  unfold doorAt at h ⊢
  rw [changeDoorCore_dlc]
  exact h

theorem closeCommand_self (d : Door) (s : State) :
    doorAt (closeCommand d s) d =
      if s.dlc.releaseInForce then doorAt s d else takeClose s.geo.timers (doorAt s d) := by
  unfold closeCommand; split <;> simp

theorem closeCommand_other {d e : Door} (s : State) (h : d ≠ e) : doorAt (closeCommand d s) e = doorAt s e := by
  unfold closeCommand; split
  · rfl
  · exact changeDoorCore_other _ _ h

/-- A change of one door record leaves every other record as it was (R80). -/
theorem changeDoor_other {d e : Door} (f : DoorRecord → DoorRecord) (s : State) (h : d ≠ e) :
    doorAt (changeDoor d f s) e = doorAt s e := by
  unfold changeDoor; dsimp only; split
  · rw [closeCommand_other _ h, changeDoorCore_other _ _ h]
  · exact changeDoorCore_other _ _ h

/-- A change of a door record that does not enter OPEN writes exactly what it says. -/
theorem changeDoor_self (d : Door) (f : DoorRecord → DoorRecord) (s : State)
    (h : (f (doorAt s d)).state ≠ .opened ∨ (doorAt s d).state = .opened) :
    doorAt (changeDoor d f s) d = f (doorAt s d) := by
  unfold changeDoor; dsimp only
  rw [if_neg (by simp; intro h1 h2; rcases h with h | h <;> contradiction)]
  simp

theorem dispatchIfClosed_closeRequested (s : State) (h : s.berth.closeRequested = false) :
    dispatchIfClosed s = s := by
  unfold dispatchIfClosed; rw [if_neg (by simp [h])]

theorem bsqDoorChange_closeRequested (d : Door) (st : DoorState) (s : State) (h : s.berth.closeRequested = false) :
    (bsqDoorChange d st s).berth.closeRequested = false := by
  unfold bsqDoorChange; split
  · rw [dispatchIfClosed_closeRequested]
    · split <;> simp [h]
    · split <;> simp [h]
  · exact h

theorem changeDoorCore_closeRequested (d : Door) (f : DoorRecord → DoorRecord) (s : State)
    (h : s.berth.closeRequested = false) : (changeDoorCore d f s).berth.closeRequested = false := by
  unfold changeDoorCore; dsimp only; split
  · simp [h]
  · rw [macDoorChange_berth]
    exact bsqDoorChange_closeRequested _ _ _ (by simp [h])

/-- While close requested is no, no door that enters OPEN is handed a close command (R53). -/
theorem changeDoor_eq_core (d : Door) (f : DoorRecord → DoorRecord) (s : State)
    (h : s.berth.closeRequested = false) : changeDoor d f s = changeDoorCore d f s := by
  unfold changeDoor; dsimp only
  rw [if_neg (by simp [reCloses, changeDoorCore_closeRequested d f s h])]

/-- A door that enters OPEN while close requested is no stays as the change left it (R53). -/
theorem changeDoor_self_kept (d : Door) (f : DoorRecord → DoorRecord) (s : State)
    (h : s.berth.closeRequested = false) : doorAt (changeDoor d f s) d = f (doorAt s d) := by
  rw [changeDoor_eq_core d f s h, changeDoorCore_self]

/-! ## The berth record -/

/-- A change of a door record to a state that neither leaves the enable set nor counts as closed leaves the berth
record as it was (R51, R54). -/
theorem bsqDoorChange_open (d : Door) (st : DoorState) (s : State) (h1 : leavesEnableSet st = false)
    (h2 : closedForDispatch (doorAt s d).state = false) : bsqDoorChange d st s = s := by
  unfold bsqDoorChange
  split
  · rename_i h
    rw [if_neg (by simp [h1])]
    unfold dispatchIfClosed
    rw [if_neg]
    intro ⟨_, _, hc⟩
    unfold enableSetClosed at hc
    rw [List.all_eq_true] at hc
    have := hc d (by simp [allDoors])
    simp [h.2, h2] at this
  · rfl

/-! ## Operations at each door of a list -/

/-- What each operation of a list leaves alone, the whole list leaves alone. -/
theorem forDoors_keeps {α : Type} (p : State → α) (l : List Door) (op : Door → State → State) (s : State)
    (h : ∀ d s, p (op d s) = p s) : p (forDoors l op s) = p s := by
  unfold forDoors
  induction l generalizing s with
  | nil => rfl
  | cons d l ih => rw [List.foldl_cons, ih, h]

theorem forDoors_nil (op : Door → State → State) (s : State) : forDoors [] op s = s := rfl
theorem forDoors_cons (d : Door) (l : List Door) (op : Door → State → State) (s : State) :
    forDoors (d :: l) op s = forDoors l op (op d s) := rfl

/-- A property that each operation of a list keeps stands at its end. -/
theorem forDoors_preserves (P : State → Prop) (l : List Door) (op : Door → State → State) (s : State)
    (h : ∀ d s, d ∈ l → P s → P (op d s)) (h0 : P s) : P (forDoors l op s) := by
  induction l generalizing s with
  | nil => exact h0
  | cons d l ih =>
    rw [forDoors_cons]
    exact ih _ (fun e s he => h e s (List.mem_cons_of_mem _ he)) (h d s List.mem_cons_self h0)

/-- Operations at doors that all leave a record alone leave it alone together. -/
theorem forDoors_other (l : List Door) (op : Door → State → State) (s : State) (e : Door)
    (h : ∀ d s, d ≠ e → doorAt (op d s) e = doorAt s e) (he : e ∉ l) :
    doorAt (forDoors l op s) e = doorAt s e := by
  induction l generalizing s with
  | nil => rfl
  | cons d l ih =>
    rw [forDoors_cons, ih _ (fun hm => he (List.mem_cons_of_mem _ hm))]
    exact h d s (fun heq => he (heq ▸ List.mem_cons_self))

theorem openCommand_other {d e : Door} (s : State) (h : d ≠ e) : doorAt (openCommand d s) e = doorAt s e :=
  changeDoor_other _ _ h

end Sys2Proof.Machine
end

