-- ==== Sys2Proof/Laws/Commands.lean ====
section
/-! SUPPORT. What open and close commands do, to one door and to a list of doors: the records they write, the berth record
they leave, and the flags and summary they do not touch. -/

namespace Sys2Proof.Machine

/-! ## The states that commands lead to -/

/-- An open command leaves a door's state or takes it to UNLOCKING, REOPENING or OPEN (R68). -/
theorem takeOpen_state (t : TimerSettings) (r : DoorRecord) :
    (takeOpen t r).state = r.state ∨ (takeOpen t r).state = .unlocking ∨ (takeOpen t r).state = .reopening ∨
    (takeOpen t r).state = .opened := by
  cases hr : r.state <;> simp [takeOpen, hr, enterUnlocking, enterReopening, withTimer, enterState, enterOpenKept]
  split <;> simp

/-- A close command leaves a door's state or takes it from OPEN to CLOSE_WAIT (R69). -/
theorem takeClose_state (t : TimerSettings) (r : DoorRecord) :
    (takeClose t r).state = r.state ∨ (r.state = .opened ∧ (takeClose t r).state = .closeWait) := by
  cases hr : r.state <;> simp [takeClose, hr, enterCloseWait, withTimer, enterState]

/-! ## A change that neither faults nor closes a door -/

/-- Where a change leads to a state that is neither closed nor one that leaves the enable set, only the record, its mark and
the test record change (R51, R54, R84, R150). -/
theorem changeDoorCore_quiet (d : Door) (f : DoorRecord → DoorRecord) (s : State)
    (h : (f (doorAt s d)).state = (doorAt s d).state ∨
      (leavesEnableSet (f (doorAt s d)).state = false ∧ closedForDispatch (f (doorAt s d)).state = false ∧
        (f (doorAt s d)).state ≠ .closeBlocked)) :
    (changeDoorCore d f s).berth = s.berth ∧ (changeDoorCore d f s).slp = s.slp ∧
    (changeDoorCore d f s).tlp = s.tlp ∧ (changeDoorCore d f s).summaryDue = s.summaryDue := by
  unfold changeDoorCore; dsimp only
  split
  · simp
  · rename_i hne
    rcases h with h | ⟨h1, h2, h3⟩
    · exact absurd h hne
    · have hflag : doorFlag (f (doorAt s d)).state (writeDoor d (f (doorAt s d)) s) = writeDoor d (f (doorAt s d)) s := by
        revert h1 h3
        cases (f (doorAt s d)).state <;> simp [doorFlag, leavesEnableSet]
      rw [hflag, bsqDoorChange_open _ _ _ h1 (by simpa using h2)]
      simp

theorem closeCommand_quiet (d : Door) (s : State) :
    (closeCommand d s).berth = s.berth ∧ (closeCommand d s).slp = s.slp ∧ (closeCommand d s).tlp = s.tlp ∧
    (closeCommand d s).summaryDue = s.summaryDue := by
  unfold closeCommand
  split
  · simp
  · apply changeDoorCore_quiet
    rcases takeClose_state s.geo.timers (doorAt s d) with h | ⟨_, h⟩
    · exact .inl h
    · right; rw [h]; decide

theorem openCommand_quiet (d : Door) (s : State) :
    (openCommand d s).berth = s.berth ∧ (openCommand d s).slp = s.slp ∧ (openCommand d s).tlp = s.tlp ∧
    (openCommand d s).summaryDue = s.summaryDue := by
  have hc := changeDoorCore_quiet d (takeOpen s.geo.timers) s (by
    rcases takeOpen_state s.geo.timers (doorAt s d) with h | h | h | h
    · exact .inl h
    all_goals (right; rw [h]; decide))
  unfold openCommand changeDoor; dsimp only
  split
  · obtain ⟨h1, h2, h3, h4⟩ := closeCommand_quiet d (changeDoorCore d (takeOpen s.geo.timers) s)
    rw [h1, h2, h3, h4]; exact hc
  · exact hc

/-! ## Lists of commands -/

/-- Open commands to a list of doors leave the berth record, the flags, the session and the summary as they were. -/
theorem forDoors_openCommand_quiet (l : List Door) (s : State) :
    (forDoors l openCommand s).berth = s.berth ∧ (forDoors l openCommand s).slp = s.slp ∧
    (forDoors l openCommand s).tlp = s.tlp ∧ (forDoors l openCommand s).summaryDue = s.summaryDue :=
  ⟨forDoors_keeps (·.berth) _ _ _ fun d s => (openCommand_quiet d s).1,
   forDoors_keeps (·.slp) _ _ _ fun d s => (openCommand_quiet d s).2.1,
   forDoors_keeps (·.tlp) _ _ _ fun d s => (openCommand_quiet d s).2.2.1,
   forDoors_keeps (·.summaryDue) _ _ _ fun d s => (openCommand_quiet d s).2.2.2⟩

/-- Close commands to a list of doors leave the berth record, the flags, the session and the summary as they were. -/
theorem forDoors_closeCommand_quiet (l : List Door) (s : State) :
    (forDoors l closeCommand s).berth = s.berth ∧ (forDoors l closeCommand s).slp = s.slp ∧
    (forDoors l closeCommand s).tlp = s.tlp ∧ (forDoors l closeCommand s).summaryDue = s.summaryDue :=
  ⟨forDoors_keeps (·.berth) _ _ _ fun d s => (closeCommand_quiet d s).1,
   forDoors_keeps (·.slp) _ _ _ fun d s => (closeCommand_quiet d s).2.1,
   forDoors_keeps (·.tlp) _ _ _ fun d s => (closeCommand_quiet d s).2.2.1,
   forDoors_keeps (·.summaryDue) _ _ _ fun d s => (closeCommand_quiet d s).2.2.2⟩

/-- What open commands to a list of doors write: each door of the list takes its command, by its state, and no other
record changes. A door that enters OPEN under close requested is the exception, and is not said here. -/
theorem forDoors_openCommand_doorAt (l : List Door) (s : State) (d : Door) (hl : l.Nodup)
    (hk : (doorAt s d).state ≠ .reopening ∨ s.berth.closeRequested = false) :
    doorAt (forDoors l openCommand s) d =
      if d ∈ l then takeOpen s.geo.timers (doorAt s d) else doorAt s d := by
  have hself : ∀ s : State, ((doorAt s d).state ≠ .reopening ∨ s.berth.closeRequested = false) →
      doorAt (openCommand d s) d = takeOpen s.geo.timers (doorAt s d) := by
    intro s hk
    rcases hk with hk | hk
    · apply changeDoor_self
      cases hr : (doorAt s d).state <;>
        simp [takeOpen, hr, enterUnlocking, enterReopening, withTimer, enterState] at hk ⊢
    · exact changeDoor_self_kept _ _ _ hk
  induction l generalizing s with
  | nil => simp [forDoors_nil]
  | cons e l ih =>
    obtain ⟨hel, hl⟩ := List.nodup_cons.mp hl
    rw [forDoors_cons]
    by_cases he : e = d
    · subst he
      rw [forDoors_other _ _ _ _ (fun d s h => openCommand_other s h) hel, hself s hk]
      simp
    · have ho := openCommand_other s he
      have hb := (openCommand_quiet e s).1
      rw [ih (openCommand e s) hl (by rw [ho, hb]; exact hk), ho]
      simp [Ne.symm he]

/-- What close commands to a list of doors write. -/
theorem forDoors_closeCommand_doorAt (l : List Door) (s : State) (d : Door) (hl : l.Nodup) :
    doorAt (forDoors l closeCommand s) d =
      if d ∈ l ∧ s.dlc.releaseInForce = false then takeClose s.geo.timers (doorAt s d) else doorAt s d := by
  induction l generalizing s with
  | nil => simp [forDoors_nil]
  | cons e l ih =>
    obtain ⟨hel, hl⟩ := List.nodup_cons.mp hl
    rw [forDoors_cons]
    by_cases he : e = d
    · subst he
      rw [forDoors_other _ _ _ _ (fun d s h => closeCommand_other s h) hel, closeCommand_self]
      cases s.dlc.releaseInForce <;> simp
    · rw [ih (closeCommand e s) hl, closeCommand_other s he]
      simp [Ne.symm he]

/-- The fitted doors and any part of them come without repeats. -/
theorem allDoors_nodup : allDoors.Nodup := List.nodup_finRange 40

theorem filter_allDoors_nodup (p : Door → Bool) : (allDoors.filter p).Nodup := allDoors_nodup.filter p

theorem mem_filter_allDoors (p : Door → Bool) (d : Door) : d ∈ allDoors.filter p ↔ p d = true := by
  simp [allDoors]

end Sys2Proof.Machine
end

