-- ==== Sys2Proof/Laws/Finish.lean ====
section
/-! SUPPORT. What the end of a command writes and leaves: the copies handed between blocks, the reports, and the
whole end of an event and of a request. -/

namespace Sys2Proof.Machine

/-! ## Reports: a port's own fields and what is sent, nothing else -/

@[simp] theorem sendTrainReport_geo (m : Message) (s : State) : (sendTrainReport m s).geo = s.geo := by
  rfl
@[simp] theorem sendTrainReport_store (m : Message) (s : State) : (sendTrainReport m s).store = s.store := by
  rfl
@[simp] theorem sendTrainReport_readerA (m : Message) (s : State) : (sendTrainReport m s).readerA = s.readerA := by
  rfl
@[simp] theorem sendTrainReport_readerB (m : Message) (s : State) : (sendTrainReport m s).readerB = s.readerB := by
  rfl
@[simp] theorem sendTrainReport_berth (m : Message) (s : State) : (sendTrainReport m s).berth = s.berth := by
  rfl
@[simp] theorem sendTrainReport_stopSettle (m : Message) (s : State) : (sendTrainReport m s).stopSettle = s.stopSettle := by
  rfl
@[simp] theorem sendTrainReport_checkOwed (m : Message) (s : State) : (sendTrainReport m s).checkOwed = s.checkOwed := by
  rfl
@[simp] theorem sendTrainReport_departureQuiet (m : Message) (s : State) : (sendTrainReport m s).departureQuiet = s.departureQuiet := by
  rfl
@[simp] theorem sendTrainReport_dlc (m : Message) (s : State) : (sendTrainReport m s).dlc = s.dlc := by
  rfl
@[simp] theorem sendTrainReport_ssc (m : Message) (s : State) : (sendTrainReport m s).ssc = s.ssc := by
  rfl
@[simp] theorem sendTrainReport_rlm (m : Message) (s : State) : (sendTrainReport m s).rlm = s.rlm := by
  rfl
@[simp] theorem sendTrainReport_scl (m : Message) (s : State) : (sendTrainReport m s).scl = s.scl := by
  rfl
@[simp] theorem sendTrainReport_mac (m : Message) (s : State) : (sendTrainReport m s).mac = s.mac := by
  rfl
@[simp] theorem sendTrainReport_ilp (m : Message) (s : State) : (sendTrainReport m s).ilp = s.ilp := by
  rfl
@[simp] theorem sendTrainReport_slp (m : Message) (s : State) : (sendTrainReport m s).slp = s.slp := by
  rfl
@[simp] theorem sendTrainReport_summaryDue (m : Message) (s : State) : (sendTrainReport m s).summaryDue = s.summaryDue := by
  rfl
@[simp] theorem sendTrainReport_restartDue (m : Message) (s : State) : (sendTrainReport m s).restartDue = s.restartDue := by
  rfl
@[simp] theorem sendTrainReport_pending (m : Message) (s : State) : (sendTrainReport m s).pending = s.pending := by
  rfl
@[simp] theorem sendIlReport_geo (m : Message) (s : State) : (sendIlReport m s).geo = s.geo := by
  rfl
@[simp] theorem sendIlReport_store (m : Message) (s : State) : (sendIlReport m s).store = s.store := by
  rfl
@[simp] theorem sendIlReport_readerA (m : Message) (s : State) : (sendIlReport m s).readerA = s.readerA := by
  rfl
@[simp] theorem sendIlReport_readerB (m : Message) (s : State) : (sendIlReport m s).readerB = s.readerB := by
  rfl
@[simp] theorem sendIlReport_berth (m : Message) (s : State) : (sendIlReport m s).berth = s.berth := by
  rfl
@[simp] theorem sendIlReport_stopSettle (m : Message) (s : State) : (sendIlReport m s).stopSettle = s.stopSettle := by
  rfl
@[simp] theorem sendIlReport_checkOwed (m : Message) (s : State) : (sendIlReport m s).checkOwed = s.checkOwed := by
  rfl
@[simp] theorem sendIlReport_departureQuiet (m : Message) (s : State) : (sendIlReport m s).departureQuiet = s.departureQuiet := by
  rfl
@[simp] theorem sendIlReport_dlc (m : Message) (s : State) : (sendIlReport m s).dlc = s.dlc := by
  rfl
@[simp] theorem sendIlReport_ssc (m : Message) (s : State) : (sendIlReport m s).ssc = s.ssc := by
  rfl
@[simp] theorem sendIlReport_rlm (m : Message) (s : State) : (sendIlReport m s).rlm = s.rlm := by
  rfl
@[simp] theorem sendIlReport_scl (m : Message) (s : State) : (sendIlReport m s).scl = s.scl := by
  rfl
@[simp] theorem sendIlReport_mac (m : Message) (s : State) : (sendIlReport m s).mac = s.mac := by
  rfl
@[simp] theorem sendIlReport_tlp (m : Message) (s : State) : (sendIlReport m s).tlp = s.tlp := by
  rfl
@[simp] theorem sendIlReport_slp (m : Message) (s : State) : (sendIlReport m s).slp = s.slp := by
  rfl
@[simp] theorem sendIlReport_summaryDue (m : Message) (s : State) : (sendIlReport m s).summaryDue = s.summaryDue := by
  rfl
@[simp] theorem sendIlReport_restartDue (m : Message) (s : State) : (sendIlReport m s).restartDue = s.restartDue := by
  rfl
@[simp] theorem sendIlReport_pending (m : Message) (s : State) : (sendIlReport m s).pending = s.pending := by
  rfl
@[simp] theorem sendStationReport_geo (m : Message) (s : State) : (sendStationReport m s).geo = s.geo := by
  rfl
@[simp] theorem sendStationReport_store (m : Message) (s : State) : (sendStationReport m s).store = s.store := by
  rfl
@[simp] theorem sendStationReport_readerA (m : Message) (s : State) : (sendStationReport m s).readerA = s.readerA := by
  rfl
@[simp] theorem sendStationReport_readerB (m : Message) (s : State) : (sendStationReport m s).readerB = s.readerB := by
  rfl
@[simp] theorem sendStationReport_berth (m : Message) (s : State) : (sendStationReport m s).berth = s.berth := by
  rfl
@[simp] theorem sendStationReport_stopSettle (m : Message) (s : State) : (sendStationReport m s).stopSettle = s.stopSettle := by
  rfl
@[simp] theorem sendStationReport_checkOwed (m : Message) (s : State) : (sendStationReport m s).checkOwed = s.checkOwed := by
  rfl
@[simp] theorem sendStationReport_departureQuiet (m : Message) (s : State) : (sendStationReport m s).departureQuiet = s.departureQuiet := by
  rfl
@[simp] theorem sendStationReport_dlc (m : Message) (s : State) : (sendStationReport m s).dlc = s.dlc := by
  rfl
@[simp] theorem sendStationReport_ssc (m : Message) (s : State) : (sendStationReport m s).ssc = s.ssc := by
  rfl
@[simp] theorem sendStationReport_rlm (m : Message) (s : State) : (sendStationReport m s).rlm = s.rlm := by
  rfl
@[simp] theorem sendStationReport_scl (m : Message) (s : State) : (sendStationReport m s).scl = s.scl := by
  rfl
@[simp] theorem sendStationReport_mac (m : Message) (s : State) : (sendStationReport m s).mac = s.mac := by
  rfl
@[simp] theorem sendStationReport_tlp (m : Message) (s : State) : (sendStationReport m s).tlp = s.tlp := by
  rfl
@[simp] theorem sendStationReport_ilp (m : Message) (s : State) : (sendStationReport m s).ilp = s.ilp := by
  rfl
@[simp] theorem sendStationReport_summaryDue (m : Message) (s : State) : (sendStationReport m s).summaryDue = s.summaryDue := by
  rfl
@[simp] theorem sendStationReport_restartDue (m : Message) (s : State) : (sendStationReport m s).restartDue = s.restartDue := by
  rfl
@[simp] theorem sendStationReport_pending (m : Message) (s : State) : (sendStationReport m s).pending = s.pending := by
  rfl
@[simp] theorem sendBerthStatus_geo (s : State) : (sendBerthStatus s).geo = s.geo := by
  rfl
@[simp] theorem sendBerthStatus_store (s : State) : (sendBerthStatus s).store = s.store := by
  rfl
@[simp] theorem sendBerthStatus_readerA (s : State) : (sendBerthStatus s).readerA = s.readerA := by
  rfl
@[simp] theorem sendBerthStatus_readerB (s : State) : (sendBerthStatus s).readerB = s.readerB := by
  rfl
@[simp] theorem sendBerthStatus_berth (s : State) : (sendBerthStatus s).berth = s.berth := by
  rfl
@[simp] theorem sendBerthStatus_stopSettle (s : State) : (sendBerthStatus s).stopSettle = s.stopSettle := by
  rfl
@[simp] theorem sendBerthStatus_checkOwed (s : State) : (sendBerthStatus s).checkOwed = s.checkOwed := by
  rfl
@[simp] theorem sendBerthStatus_departureQuiet (s : State) : (sendBerthStatus s).departureQuiet = s.departureQuiet := by
  rfl
@[simp] theorem sendBerthStatus_dlc (s : State) : (sendBerthStatus s).dlc = s.dlc := by
  rfl
@[simp] theorem sendBerthStatus_ssc (s : State) : (sendBerthStatus s).ssc = s.ssc := by
  rfl
@[simp] theorem sendBerthStatus_rlm (s : State) : (sendBerthStatus s).rlm = s.rlm := by
  rfl
@[simp] theorem sendBerthStatus_scl (s : State) : (sendBerthStatus s).scl = s.scl := by
  rfl
@[simp] theorem sendBerthStatus_mac (s : State) : (sendBerthStatus s).mac = s.mac := by
  rfl
@[simp] theorem sendBerthStatus_ilp (s : State) : (sendBerthStatus s).ilp = s.ilp := by
  rfl
@[simp] theorem sendBerthStatus_slp (s : State) : (sendBerthStatus s).slp = s.slp := by
  rfl
@[simp] theorem sendBerthStatus_summaryDue (s : State) : (sendBerthStatus s).summaryDue = s.summaryDue := by
  rfl
@[simp] theorem sendBerthStatus_restartDue (s : State) : (sendBerthStatus s).restartDue = s.restartDue := by
  rfl
@[simp] theorem sendBerthStatus_pending (s : State) : (sendBerthStatus s).pending = s.pending := by
  rfl
@[simp] theorem sendPlatformState_geo (s : State) : (sendPlatformState s).geo = s.geo := by
  rfl
@[simp] theorem sendPlatformState_store (s : State) : (sendPlatformState s).store = s.store := by
  rfl
@[simp] theorem sendPlatformState_readerA (s : State) : (sendPlatformState s).readerA = s.readerA := by
  rfl
@[simp] theorem sendPlatformState_readerB (s : State) : (sendPlatformState s).readerB = s.readerB := by
  rfl
@[simp] theorem sendPlatformState_berth (s : State) : (sendPlatformState s).berth = s.berth := by
  rfl
@[simp] theorem sendPlatformState_stopSettle (s : State) : (sendPlatformState s).stopSettle = s.stopSettle := by
  rfl
@[simp] theorem sendPlatformState_checkOwed (s : State) : (sendPlatformState s).checkOwed = s.checkOwed := by
  rfl
@[simp] theorem sendPlatformState_departureQuiet (s : State) : (sendPlatformState s).departureQuiet = s.departureQuiet := by
  rfl
@[simp] theorem sendPlatformState_dlc (s : State) : (sendPlatformState s).dlc = s.dlc := by
  rfl
@[simp] theorem sendPlatformState_ssc (s : State) : (sendPlatformState s).ssc = s.ssc := by
  rfl
@[simp] theorem sendPlatformState_rlm (s : State) : (sendPlatformState s).rlm = s.rlm := by
  rfl
@[simp] theorem sendPlatformState_scl (s : State) : (sendPlatformState s).scl = s.scl := by
  rfl
@[simp] theorem sendPlatformState_mac (s : State) : (sendPlatformState s).mac = s.mac := by
  rfl
@[simp] theorem sendPlatformState_tlp (s : State) : (sendPlatformState s).tlp = s.tlp := by
  rfl
@[simp] theorem sendPlatformState_slp (s : State) : (sendPlatformState s).slp = s.slp := by
  rfl
@[simp] theorem sendPlatformState_summaryDue (s : State) : (sendPlatformState s).summaryDue = s.summaryDue := by
  rfl
@[simp] theorem sendPlatformState_restartDue (s : State) : (sendPlatformState s).restartDue = s.restartDue := by
  rfl
@[simp] theorem sendPlatformState_pending (s : State) : (sendPlatformState s).pending = s.pending := by
  rfl
@[simp] theorem sendStationStatus_geo (s : State) : (sendStationStatus s).geo = s.geo := by
  rfl
@[simp] theorem sendStationStatus_store (s : State) : (sendStationStatus s).store = s.store := by
  rfl
@[simp] theorem sendStationStatus_readerA (s : State) : (sendStationStatus s).readerA = s.readerA := by
  rfl
@[simp] theorem sendStationStatus_readerB (s : State) : (sendStationStatus s).readerB = s.readerB := by
  rfl
@[simp] theorem sendStationStatus_berth (s : State) : (sendStationStatus s).berth = s.berth := by
  rfl
@[simp] theorem sendStationStatus_stopSettle (s : State) : (sendStationStatus s).stopSettle = s.stopSettle := by
  rfl
@[simp] theorem sendStationStatus_checkOwed (s : State) : (sendStationStatus s).checkOwed = s.checkOwed := by
  rfl
@[simp] theorem sendStationStatus_departureQuiet (s : State) : (sendStationStatus s).departureQuiet = s.departureQuiet := by
  rfl
@[simp] theorem sendStationStatus_dlc (s : State) : (sendStationStatus s).dlc = s.dlc := by
  rfl
@[simp] theorem sendStationStatus_ssc (s : State) : (sendStationStatus s).ssc = s.ssc := by
  rfl
@[simp] theorem sendStationStatus_rlm (s : State) : (sendStationStatus s).rlm = s.rlm := by
  rfl
@[simp] theorem sendStationStatus_scl (s : State) : (sendStationStatus s).scl = s.scl := by
  rfl
@[simp] theorem sendStationStatus_mac (s : State) : (sendStationStatus s).mac = s.mac := by
  rfl
@[simp] theorem sendStationStatus_tlp (s : State) : (sendStationStatus s).tlp = s.tlp := by
  rfl
@[simp] theorem sendStationStatus_ilp (s : State) : (sendStationStatus s).ilp = s.ilp := by
  rfl
@[simp] theorem sendStationStatus_summaryDue (s : State) : (sendStationStatus s).summaryDue = s.summaryDue := by
  rfl
@[simp] theorem sendStationStatus_restartDue (s : State) : (sendStationStatus s).restartDue = s.restartDue := by
  rfl
@[simp] theorem sendStationStatus_pending (s : State) : (sendStationStatus s).pending = s.pending := by
  rfl
@[simp] theorem sendSummary_geo (s : State) : (sendSummary s).geo = s.geo := by
  unfold sendSummary; split <;> rfl
@[simp] theorem sendSummary_store (s : State) : (sendSummary s).store = s.store := by
  unfold sendSummary; split <;> rfl
@[simp] theorem sendSummary_readerA (s : State) : (sendSummary s).readerA = s.readerA := by
  unfold sendSummary; split <;> rfl
@[simp] theorem sendSummary_readerB (s : State) : (sendSummary s).readerB = s.readerB := by
  unfold sendSummary; split <;> rfl
@[simp] theorem sendSummary_berth (s : State) : (sendSummary s).berth = s.berth := by
  unfold sendSummary; split <;> rfl
@[simp] theorem sendSummary_stopSettle (s : State) : (sendSummary s).stopSettle = s.stopSettle := by
  unfold sendSummary; split <;> rfl
@[simp] theorem sendSummary_checkOwed (s : State) : (sendSummary s).checkOwed = s.checkOwed := by
  unfold sendSummary; split <;> rfl
@[simp] theorem sendSummary_departureQuiet (s : State) : (sendSummary s).departureQuiet = s.departureQuiet := by
  unfold sendSummary; split <;> rfl
@[simp] theorem sendSummary_dlc (s : State) : (sendSummary s).dlc = s.dlc := by
  unfold sendSummary; split <;> rfl
@[simp] theorem sendSummary_ssc (s : State) : (sendSummary s).ssc = s.ssc := by
  unfold sendSummary; split <;> rfl
@[simp] theorem sendSummary_rlm (s : State) : (sendSummary s).rlm = s.rlm := by
  unfold sendSummary; split <;> rfl
@[simp] theorem sendSummary_scl (s : State) : (sendSummary s).scl = s.scl := by
  unfold sendSummary; split <;> rfl
@[simp] theorem sendSummary_mac (s : State) : (sendSummary s).mac = s.mac := by
  unfold sendSummary; split <;> rfl
@[simp] theorem sendSummary_ilp (s : State) : (sendSummary s).ilp = s.ilp := by
  unfold sendSummary; split <;> rfl
@[simp] theorem sendSummary_slp (s : State) : (sendSummary s).slp = s.slp := by
  unfold sendSummary; split <;> rfl
@[simp] theorem sendSummary_summaryDue (s : State) : (sendSummary s).summaryDue = s.summaryDue := by
  unfold sendSummary; split <;> rfl
@[simp] theorem sendSummary_restartDue (s : State) : (sendSummary s).restartDue = s.restartDue := by
  unfold sendSummary; split <;> rfl
@[simp] theorem sendSummary_pending (s : State) : (sendSummary s).pending = s.pending := by
  unfold sendSummary; split <;> rfl
@[simp] theorem storeTrainValues_geo (s0 s : State) : (storeTrainValues s0 s).geo = s.geo := by
  unfold storeTrainValues; split <;> rfl
@[simp] theorem storeTrainValues_store (s0 s : State) : (storeTrainValues s0 s).store = s.store := by
  unfold storeTrainValues; split <;> rfl
@[simp] theorem storeTrainValues_readerA (s0 s : State) : (storeTrainValues s0 s).readerA = s.readerA := by
  unfold storeTrainValues; split <;> rfl
@[simp] theorem storeTrainValues_readerB (s0 s : State) : (storeTrainValues s0 s).readerB = s.readerB := by
  unfold storeTrainValues; split <;> rfl
@[simp] theorem storeTrainValues_berth (s0 s : State) : (storeTrainValues s0 s).berth = s.berth := by
  unfold storeTrainValues; split <;> rfl
@[simp] theorem storeTrainValues_stopSettle (s0 s : State) : (storeTrainValues s0 s).stopSettle = s.stopSettle := by
  unfold storeTrainValues; split <;> rfl
@[simp] theorem storeTrainValues_checkOwed (s0 s : State) : (storeTrainValues s0 s).checkOwed = s.checkOwed := by
  unfold storeTrainValues; split <;> rfl
@[simp] theorem storeTrainValues_departureQuiet (s0 s : State) : (storeTrainValues s0 s).departureQuiet = s.departureQuiet := by
  unfold storeTrainValues; split <;> rfl
@[simp] theorem storeTrainValues_dlc (s0 s : State) : (storeTrainValues s0 s).dlc = s.dlc := by
  unfold storeTrainValues; split <;> rfl
@[simp] theorem storeTrainValues_ssc (s0 s : State) : (storeTrainValues s0 s).ssc = s.ssc := by
  unfold storeTrainValues; split <;> rfl
@[simp] theorem storeTrainValues_rlm (s0 s : State) : (storeTrainValues s0 s).rlm = s.rlm := by
  unfold storeTrainValues; split <;> rfl
@[simp] theorem storeTrainValues_scl (s0 s : State) : (storeTrainValues s0 s).scl = s.scl := by
  unfold storeTrainValues; split <;> rfl
@[simp] theorem storeTrainValues_mac (s0 s : State) : (storeTrainValues s0 s).mac = s.mac := by
  unfold storeTrainValues; split <;> rfl
@[simp] theorem storeTrainValues_ilp (s0 s : State) : (storeTrainValues s0 s).ilp = s.ilp := by
  unfold storeTrainValues; split <;> rfl
@[simp] theorem storeTrainValues_slp (s0 s : State) : (storeTrainValues s0 s).slp = s.slp := by
  unfold storeTrainValues; split <;> rfl
@[simp] theorem storeTrainValues_sent (s0 s : State) : (storeTrainValues s0 s).sent = s.sent := by
  unfold storeTrainValues; split <;> rfl
@[simp] theorem storeTrainValues_summaryDue (s0 s : State) : (storeTrainValues s0 s).summaryDue = s.summaryDue := by
  unfold storeTrainValues; split <;> rfl
@[simp] theorem storeTrainValues_restartDue (s0 s : State) : (storeTrainValues s0 s).restartDue = s.restartDue := by
  unfold storeTrainValues; split <;> rfl
@[simp] theorem storeTrainValues_pending (s0 s : State) : (storeTrainValues s0 s).pending = s.pending := by
  unfold storeTrainValues; split <;> rfl
@[simp] theorem storeIlValues_geo (s0 s : State) : (storeIlValues s0 s).geo = s.geo := by
  unfold storeIlValues; split <;> rfl
@[simp] theorem storeIlValues_store (s0 s : State) : (storeIlValues s0 s).store = s.store := by
  unfold storeIlValues; split <;> rfl
@[simp] theorem storeIlValues_readerA (s0 s : State) : (storeIlValues s0 s).readerA = s.readerA := by
  unfold storeIlValues; split <;> rfl
@[simp] theorem storeIlValues_readerB (s0 s : State) : (storeIlValues s0 s).readerB = s.readerB := by
  unfold storeIlValues; split <;> rfl
@[simp] theorem storeIlValues_berth (s0 s : State) : (storeIlValues s0 s).berth = s.berth := by
  unfold storeIlValues; split <;> rfl
@[simp] theorem storeIlValues_stopSettle (s0 s : State) : (storeIlValues s0 s).stopSettle = s.stopSettle := by
  unfold storeIlValues; split <;> rfl
@[simp] theorem storeIlValues_checkOwed (s0 s : State) : (storeIlValues s0 s).checkOwed = s.checkOwed := by
  unfold storeIlValues; split <;> rfl
@[simp] theorem storeIlValues_departureQuiet (s0 s : State) : (storeIlValues s0 s).departureQuiet = s.departureQuiet := by
  unfold storeIlValues; split <;> rfl
@[simp] theorem storeIlValues_dlc (s0 s : State) : (storeIlValues s0 s).dlc = s.dlc := by
  unfold storeIlValues; split <;> rfl
@[simp] theorem storeIlValues_ssc (s0 s : State) : (storeIlValues s0 s).ssc = s.ssc := by
  unfold storeIlValues; split <;> rfl
@[simp] theorem storeIlValues_rlm (s0 s : State) : (storeIlValues s0 s).rlm = s.rlm := by
  unfold storeIlValues; split <;> rfl
@[simp] theorem storeIlValues_scl (s0 s : State) : (storeIlValues s0 s).scl = s.scl := by
  unfold storeIlValues; split <;> rfl
@[simp] theorem storeIlValues_mac (s0 s : State) : (storeIlValues s0 s).mac = s.mac := by
  unfold storeIlValues; split <;> rfl
@[simp] theorem storeIlValues_tlp (s0 s : State) : (storeIlValues s0 s).tlp = s.tlp := by
  unfold storeIlValues; split <;> rfl
@[simp] theorem storeIlValues_slp (s0 s : State) : (storeIlValues s0 s).slp = s.slp := by
  unfold storeIlValues; split <;> rfl
@[simp] theorem storeIlValues_sent (s0 s : State) : (storeIlValues s0 s).sent = s.sent := by
  unfold storeIlValues; split <;> rfl
@[simp] theorem storeIlValues_summaryDue (s0 s : State) : (storeIlValues s0 s).summaryDue = s.summaryDue := by
  unfold storeIlValues; split <;> rfl
@[simp] theorem storeIlValues_restartDue (s0 s : State) : (storeIlValues s0 s).restartDue = s.restartDue := by
  unfold storeIlValues; split <;> rfl
@[simp] theorem storeIlValues_pending (s0 s : State) : (storeIlValues s0 s).pending = s.pending := by
  unfold storeIlValues; split <;> rfl
@[simp] theorem storeStationValues_geo (s0 s : State) : (storeStationValues s0 s).geo = s.geo := by
  unfold storeStationValues; split <;> rfl
@[simp] theorem storeStationValues_store (s0 s : State) : (storeStationValues s0 s).store = s.store := by
  unfold storeStationValues; split <;> rfl
@[simp] theorem storeStationValues_readerA (s0 s : State) : (storeStationValues s0 s).readerA = s.readerA := by
  unfold storeStationValues; split <;> rfl
@[simp] theorem storeStationValues_readerB (s0 s : State) : (storeStationValues s0 s).readerB = s.readerB := by
  unfold storeStationValues; split <;> rfl
@[simp] theorem storeStationValues_berth (s0 s : State) : (storeStationValues s0 s).berth = s.berth := by
  unfold storeStationValues; split <;> rfl
@[simp] theorem storeStationValues_stopSettle (s0 s : State) : (storeStationValues s0 s).stopSettle = s.stopSettle := by
  unfold storeStationValues; split <;> rfl
@[simp] theorem storeStationValues_checkOwed (s0 s : State) : (storeStationValues s0 s).checkOwed = s.checkOwed := by
  unfold storeStationValues; split <;> rfl
@[simp] theorem storeStationValues_departureQuiet (s0 s : State) : (storeStationValues s0 s).departureQuiet = s.departureQuiet := by
  unfold storeStationValues; split <;> rfl
@[simp] theorem storeStationValues_dlc (s0 s : State) : (storeStationValues s0 s).dlc = s.dlc := by
  unfold storeStationValues; split <;> rfl
@[simp] theorem storeStationValues_ssc (s0 s : State) : (storeStationValues s0 s).ssc = s.ssc := by
  unfold storeStationValues; split <;> rfl
@[simp] theorem storeStationValues_rlm (s0 s : State) : (storeStationValues s0 s).rlm = s.rlm := by
  unfold storeStationValues; split <;> rfl
@[simp] theorem storeStationValues_scl (s0 s : State) : (storeStationValues s0 s).scl = s.scl := by
  unfold storeStationValues; split <;> rfl
@[simp] theorem storeStationValues_mac (s0 s : State) : (storeStationValues s0 s).mac = s.mac := by
  unfold storeStationValues; split <;> rfl
@[simp] theorem storeStationValues_tlp (s0 s : State) : (storeStationValues s0 s).tlp = s.tlp := by
  unfold storeStationValues; split <;> rfl
@[simp] theorem storeStationValues_ilp (s0 s : State) : (storeStationValues s0 s).ilp = s.ilp := by
  unfold storeStationValues; split <;> rfl
@[simp] theorem storeStationValues_sent (s0 s : State) : (storeStationValues s0 s).sent = s.sent := by
  unfold storeStationValues; split <;> rfl
@[simp] theorem storeStationValues_summaryDue (s0 s : State) : (storeStationValues s0 s).summaryDue = s.summaryDue := by
  unfold storeStationValues; split <;> rfl
@[simp] theorem storeStationValues_restartDue (s0 s : State) : (storeStationValues s0 s).restartDue = s.restartDue := by
  unfold storeStationValues; split <;> rfl
@[simp] theorem storeStationValues_pending (s0 s : State) : (storeStationValues s0 s).pending = s.pending := by
  unfold storeStationValues; split <;> rfl
@[simp] theorem handTlp_geo (due : Bool) (s0 s : State) : (handTlp due s0 s).geo = s.geo := by
  unfold handTlp; dsimp only; split <;> (try split) <;> (try split) <;> simp
@[simp] theorem handTlp_store (due : Bool) (s0 s : State) : (handTlp due s0 s).store = s.store := by
  unfold handTlp; dsimp only; split <;> (try split) <;> (try split) <;> simp
@[simp] theorem handTlp_readerA (due : Bool) (s0 s : State) : (handTlp due s0 s).readerA = s.readerA := by
  unfold handTlp; dsimp only; split <;> (try split) <;> (try split) <;> simp
@[simp] theorem handTlp_readerB (due : Bool) (s0 s : State) : (handTlp due s0 s).readerB = s.readerB := by
  unfold handTlp; dsimp only; split <;> (try split) <;> (try split) <;> simp
@[simp] theorem handTlp_berth (due : Bool) (s0 s : State) : (handTlp due s0 s).berth = s.berth := by
  unfold handTlp; dsimp only; split <;> (try split) <;> (try split) <;> simp
@[simp] theorem handTlp_stopSettle (due : Bool) (s0 s : State) : (handTlp due s0 s).stopSettle = s.stopSettle := by
  unfold handTlp; dsimp only; split <;> (try split) <;> (try split) <;> simp
@[simp] theorem handTlp_checkOwed (due : Bool) (s0 s : State) : (handTlp due s0 s).checkOwed = s.checkOwed := by
  unfold handTlp; dsimp only; split <;> (try split) <;> (try split) <;> simp
@[simp] theorem handTlp_departureQuiet (due : Bool) (s0 s : State) : (handTlp due s0 s).departureQuiet = s.departureQuiet := by
  unfold handTlp; dsimp only; split <;> (try split) <;> (try split) <;> simp
@[simp] theorem handTlp_dlc (due : Bool) (s0 s : State) : (handTlp due s0 s).dlc = s.dlc := by
  unfold handTlp; dsimp only; split <;> (try split) <;> (try split) <;> simp
@[simp] theorem handTlp_ssc (due : Bool) (s0 s : State) : (handTlp due s0 s).ssc = s.ssc := by
  unfold handTlp; dsimp only; split <;> (try split) <;> (try split) <;> simp
@[simp] theorem handTlp_rlm (due : Bool) (s0 s : State) : (handTlp due s0 s).rlm = s.rlm := by
  unfold handTlp; dsimp only; split <;> (try split) <;> (try split) <;> simp
@[simp] theorem handTlp_scl (due : Bool) (s0 s : State) : (handTlp due s0 s).scl = s.scl := by
  unfold handTlp; dsimp only; split <;> (try split) <;> (try split) <;> simp
@[simp] theorem handTlp_mac (due : Bool) (s0 s : State) : (handTlp due s0 s).mac = s.mac := by
  unfold handTlp; dsimp only; split <;> (try split) <;> (try split) <;> simp
@[simp] theorem handTlp_ilp (due : Bool) (s0 s : State) : (handTlp due s0 s).ilp = s.ilp := by
  unfold handTlp; dsimp only; split <;> (try split) <;> (try split) <;> simp
@[simp] theorem handTlp_slp (due : Bool) (s0 s : State) : (handTlp due s0 s).slp = s.slp := by
  unfold handTlp; dsimp only; split <;> (try split) <;> (try split) <;> simp
@[simp] theorem handTlp_summaryDue (due : Bool) (s0 s : State) : (handTlp due s0 s).summaryDue = s.summaryDue := by
  unfold handTlp; dsimp only; split <;> (try split) <;> (try split) <;> simp
@[simp] theorem handTlp_restartDue (due : Bool) (s0 s : State) : (handTlp due s0 s).restartDue = s.restartDue := by
  unfold handTlp; dsimp only; split <;> (try split) <;> (try split) <;> simp
@[simp] theorem handTlp_pending (due : Bool) (s0 s : State) : (handTlp due s0 s).pending = s.pending := by
  unfold handTlp; dsimp only; split <;> (try split) <;> (try split) <;> simp
@[simp] theorem handIlp_geo (due : Bool) (s0 s : State) : (handIlp due s0 s).geo = s.geo := by
  unfold handIlp; dsimp only; split <;> simp
@[simp] theorem handIlp_store (due : Bool) (s0 s : State) : (handIlp due s0 s).store = s.store := by
  unfold handIlp; dsimp only; split <;> simp
@[simp] theorem handIlp_readerA (due : Bool) (s0 s : State) : (handIlp due s0 s).readerA = s.readerA := by
  unfold handIlp; dsimp only; split <;> simp
@[simp] theorem handIlp_readerB (due : Bool) (s0 s : State) : (handIlp due s0 s).readerB = s.readerB := by
  unfold handIlp; dsimp only; split <;> simp
@[simp] theorem handIlp_berth (due : Bool) (s0 s : State) : (handIlp due s0 s).berth = s.berth := by
  unfold handIlp; dsimp only; split <;> simp
@[simp] theorem handIlp_stopSettle (due : Bool) (s0 s : State) : (handIlp due s0 s).stopSettle = s.stopSettle := by
  unfold handIlp; dsimp only; split <;> simp
@[simp] theorem handIlp_checkOwed (due : Bool) (s0 s : State) : (handIlp due s0 s).checkOwed = s.checkOwed := by
  unfold handIlp; dsimp only; split <;> simp
@[simp] theorem handIlp_departureQuiet (due : Bool) (s0 s : State) : (handIlp due s0 s).departureQuiet = s.departureQuiet := by
  unfold handIlp; dsimp only; split <;> simp
@[simp] theorem handIlp_dlc (due : Bool) (s0 s : State) : (handIlp due s0 s).dlc = s.dlc := by
  unfold handIlp; dsimp only; split <;> simp
@[simp] theorem handIlp_ssc (due : Bool) (s0 s : State) : (handIlp due s0 s).ssc = s.ssc := by
  unfold handIlp; dsimp only; split <;> simp
@[simp] theorem handIlp_rlm (due : Bool) (s0 s : State) : (handIlp due s0 s).rlm = s.rlm := by
  unfold handIlp; dsimp only; split <;> simp
@[simp] theorem handIlp_scl (due : Bool) (s0 s : State) : (handIlp due s0 s).scl = s.scl := by
  unfold handIlp; dsimp only; split <;> simp
@[simp] theorem handIlp_mac (due : Bool) (s0 s : State) : (handIlp due s0 s).mac = s.mac := by
  unfold handIlp; dsimp only; split <;> simp
@[simp] theorem handIlp_tlp (due : Bool) (s0 s : State) : (handIlp due s0 s).tlp = s.tlp := by
  unfold handIlp; dsimp only; split <;> simp
@[simp] theorem handIlp_slp (due : Bool) (s0 s : State) : (handIlp due s0 s).slp = s.slp := by
  unfold handIlp; dsimp only; split <;> simp
@[simp] theorem handIlp_summaryDue (due : Bool) (s0 s : State) : (handIlp due s0 s).summaryDue = s.summaryDue := by
  unfold handIlp; dsimp only; split <;> simp
@[simp] theorem handIlp_restartDue (due : Bool) (s0 s : State) : (handIlp due s0 s).restartDue = s.restartDue := by
  unfold handIlp; dsimp only; split <;> simp
@[simp] theorem handIlp_pending (due : Bool) (s0 s : State) : (handIlp due s0 s).pending = s.pending := by
  unfold handIlp; dsimp only; split <;> simp
@[simp] theorem handSlp_geo (due : Bool) (s0 s : State) : (handSlp due s0 s).geo = s.geo := by
  unfold handSlp; dsimp only; split <;> simp
@[simp] theorem handSlp_store (due : Bool) (s0 s : State) : (handSlp due s0 s).store = s.store := by
  unfold handSlp; dsimp only; split <;> simp
@[simp] theorem handSlp_readerA (due : Bool) (s0 s : State) : (handSlp due s0 s).readerA = s.readerA := by
  unfold handSlp; dsimp only; split <;> simp
@[simp] theorem handSlp_readerB (due : Bool) (s0 s : State) : (handSlp due s0 s).readerB = s.readerB := by
  unfold handSlp; dsimp only; split <;> simp
@[simp] theorem handSlp_berth (due : Bool) (s0 s : State) : (handSlp due s0 s).berth = s.berth := by
  unfold handSlp; dsimp only; split <;> simp
@[simp] theorem handSlp_stopSettle (due : Bool) (s0 s : State) : (handSlp due s0 s).stopSettle = s.stopSettle := by
  unfold handSlp; dsimp only; split <;> simp
@[simp] theorem handSlp_checkOwed (due : Bool) (s0 s : State) : (handSlp due s0 s).checkOwed = s.checkOwed := by
  unfold handSlp; dsimp only; split <;> simp
@[simp] theorem handSlp_departureQuiet (due : Bool) (s0 s : State) : (handSlp due s0 s).departureQuiet = s.departureQuiet := by
  unfold handSlp; dsimp only; split <;> simp
@[simp] theorem handSlp_dlc (due : Bool) (s0 s : State) : (handSlp due s0 s).dlc = s.dlc := by
  unfold handSlp; dsimp only; split <;> simp
@[simp] theorem handSlp_ssc (due : Bool) (s0 s : State) : (handSlp due s0 s).ssc = s.ssc := by
  unfold handSlp; dsimp only; split <;> simp
@[simp] theorem handSlp_rlm (due : Bool) (s0 s : State) : (handSlp due s0 s).rlm = s.rlm := by
  unfold handSlp; dsimp only; split <;> simp
@[simp] theorem handSlp_scl (due : Bool) (s0 s : State) : (handSlp due s0 s).scl = s.scl := by
  unfold handSlp; dsimp only; split <;> simp
@[simp] theorem handSlp_mac (due : Bool) (s0 s : State) : (handSlp due s0 s).mac = s.mac := by
  unfold handSlp; dsimp only; split <;> simp
@[simp] theorem handSlp_tlp (due : Bool) (s0 s : State) : (handSlp due s0 s).tlp = s.tlp := by
  unfold handSlp; dsimp only; split <;> simp
@[simp] theorem handSlp_ilp (due : Bool) (s0 s : State) : (handSlp due s0 s).ilp = s.ilp := by
  unfold handSlp; dsimp only; split <;> simp
@[simp] theorem handSlp_summaryDue (due : Bool) (s0 s : State) : (handSlp due s0 s).summaryDue = s.summaryDue := by
  unfold handSlp; dsimp only; split <;> simp
@[simp] theorem handSlp_restartDue (due : Bool) (s0 s : State) : (handSlp due s0 s).restartDue = s.restartDue := by
  unfold handSlp; dsimp only; split <;> simp
@[simp] theorem handSlp_pending (due : Bool) (s0 s : State) : (handSlp due s0 s).pending = s.pending := by
  unfold handSlp; dsimp only; split <;> simp

/-! ## The ports keep what is not a report's -/

@[simp] theorem sendTrainReport_tlp_link (m : Message) (s : State) : (sendTrainReport m s).tlp.link = s.tlp.link := by
  rfl
@[simp] theorem sendTrainReport_tlp_supervision (m : Message) (s : State) : (sendTrainReport m s).tlp.supervision = s.tlp.supervision := by
  rfl
@[simp] theorem sendTrainReport_tlp_session (m : Message) (s : State) : (sendTrainReport m s).tlp.session = s.tlp.session := by
  rfl
@[simp] theorem sendTrainReport_tlp_sessionVersion (m : Message) (s : State) : (sendTrainReport m s).tlp.sessionVersion = s.tlp.sessionVersion := by
  rfl
@[simp] theorem sendTrainReport_tlp_sessionTrainId (m : Message) (s : State) : (sendTrainReport m s).tlp.sessionTrainId = s.tlp.sessionTrainId := by
  rfl
@[simp] theorem sendTrainReport_tlp_heldSummary (m : Message) (s : State) : (sendTrainReport m s).tlp.heldSummary = s.tlp.heldSummary := by
  rfl
@[simp] theorem sendBerthStatus_tlp_link (s : State) : (sendBerthStatus s).tlp.link = s.tlp.link := by
  rfl
@[simp] theorem sendBerthStatus_tlp_supervision (s : State) : (sendBerthStatus s).tlp.supervision = s.tlp.supervision := by
  rfl
@[simp] theorem sendBerthStatus_tlp_session (s : State) : (sendBerthStatus s).tlp.session = s.tlp.session := by
  rfl
@[simp] theorem sendBerthStatus_tlp_sessionVersion (s : State) : (sendBerthStatus s).tlp.sessionVersion = s.tlp.sessionVersion := by
  rfl
@[simp] theorem sendBerthStatus_tlp_sessionTrainId (s : State) : (sendBerthStatus s).tlp.sessionTrainId = s.tlp.sessionTrainId := by
  rfl
@[simp] theorem sendBerthStatus_tlp_heldSummary (s : State) : (sendBerthStatus s).tlp.heldSummary = s.tlp.heldSummary := by
  rfl
@[simp] theorem sendSummary_tlp_link (s : State) : (sendSummary s).tlp.link = s.tlp.link := by
  unfold sendSummary; split <;> rfl
@[simp] theorem sendSummary_tlp_supervision (s : State) : (sendSummary s).tlp.supervision = s.tlp.supervision := by
  unfold sendSummary; split <;> rfl
@[simp] theorem sendSummary_tlp_session (s : State) : (sendSummary s).tlp.session = s.tlp.session := by
  unfold sendSummary; split <;> rfl
@[simp] theorem sendSummary_tlp_sessionVersion (s : State) : (sendSummary s).tlp.sessionVersion = s.tlp.sessionVersion := by
  unfold sendSummary; split <;> rfl
@[simp] theorem sendSummary_tlp_sessionTrainId (s : State) : (sendSummary s).tlp.sessionTrainId = s.tlp.sessionTrainId := by
  unfold sendSummary; split <;> rfl
@[simp] theorem sendSummary_tlp_heldSummary (s : State) : (sendSummary s).tlp.heldSummary = s.tlp.heldSummary := by
  unfold sendSummary; split <;> rfl
@[simp] theorem storeTrainValues_tlp_link (s0 s : State) : (storeTrainValues s0 s).tlp.link = s.tlp.link := by
  unfold storeTrainValues; split <;> rfl
@[simp] theorem storeTrainValues_tlp_supervision (s0 s : State) : (storeTrainValues s0 s).tlp.supervision = s.tlp.supervision := by
  unfold storeTrainValues; split <;> rfl
@[simp] theorem storeTrainValues_tlp_session (s0 s : State) : (storeTrainValues s0 s).tlp.session = s.tlp.session := by
  unfold storeTrainValues; split <;> rfl
@[simp] theorem storeTrainValues_tlp_sessionVersion (s0 s : State) : (storeTrainValues s0 s).tlp.sessionVersion = s.tlp.sessionVersion := by
  unfold storeTrainValues; split <;> rfl
@[simp] theorem storeTrainValues_tlp_sessionTrainId (s0 s : State) : (storeTrainValues s0 s).tlp.sessionTrainId = s.tlp.sessionTrainId := by
  unfold storeTrainValues; split <;> rfl
@[simp] theorem storeTrainValues_tlp_heldSummary (s0 s : State) : (storeTrainValues s0 s).tlp.heldSummary = s.tlp.heldSummary := by
  unfold storeTrainValues; split <;> rfl
@[simp] theorem handTlp_tlp_link (due : Bool) (s0 s : State) : (handTlp due s0 s).tlp.link = s.tlp.link := by
  unfold handTlp; dsimp only; split <;> (try split) <;> (try split) <;> simp
@[simp] theorem handTlp_tlp_supervision (due : Bool) (s0 s : State) : (handTlp due s0 s).tlp.supervision = s.tlp.supervision := by
  unfold handTlp; dsimp only; split <;> (try split) <;> (try split) <;> simp
@[simp] theorem handTlp_tlp_session (due : Bool) (s0 s : State) : (handTlp due s0 s).tlp.session = s.tlp.session := by
  unfold handTlp; dsimp only; split <;> (try split) <;> (try split) <;> simp
@[simp] theorem handTlp_tlp_sessionVersion (due : Bool) (s0 s : State) : (handTlp due s0 s).tlp.sessionVersion = s.tlp.sessionVersion := by
  unfold handTlp; dsimp only; split <;> (try split) <;> (try split) <;> simp
@[simp] theorem handTlp_tlp_sessionTrainId (due : Bool) (s0 s : State) : (handTlp due s0 s).tlp.sessionTrainId = s.tlp.sessionTrainId := by
  unfold handTlp; dsimp only; split <;> (try split) <;> (try split) <;> simp
@[simp] theorem handTlp_tlp_heldSummary (due : Bool) (s0 s : State) : (handTlp due s0 s).tlp.heldSummary = s.tlp.heldSummary := by
  unfold handTlp; dsimp only; split <;> (try split) <;> (try split) <;> simp
@[simp] theorem sendIlReport_ilp_link (m : Message) (s : State) : (sendIlReport m s).ilp.link = s.ilp.link := by
  rfl
@[simp] theorem sendIlReport_ilp_supervision (m : Message) (s : State) : (sendIlReport m s).ilp.supervision = s.ilp.supervision := by
  rfl
@[simp] theorem sendPlatformState_ilp_link (s : State) : (sendPlatformState s).ilp.link = s.ilp.link := by
  rfl
@[simp] theorem sendPlatformState_ilp_supervision (s : State) : (sendPlatformState s).ilp.supervision = s.ilp.supervision := by
  rfl
@[simp] theorem storeIlValues_ilp_link (s0 s : State) : (storeIlValues s0 s).ilp.link = s.ilp.link := by
  unfold storeIlValues; split <;> rfl
@[simp] theorem storeIlValues_ilp_supervision (s0 s : State) : (storeIlValues s0 s).ilp.supervision = s.ilp.supervision := by
  unfold storeIlValues; split <;> rfl
@[simp] theorem handIlp_ilp_link (due : Bool) (s0 s : State) : (handIlp due s0 s).ilp.link = s.ilp.link := by
  unfold handIlp; dsimp only; split <;> simp
@[simp] theorem handIlp_ilp_supervision (due : Bool) (s0 s : State) : (handIlp due s0 s).ilp.supervision = s.ilp.supervision := by
  unfold handIlp; dsimp only; split <;> simp
@[simp] theorem sendStationReport_slp_link (m : Message) (s : State) : (sendStationReport m s).slp.link = s.slp.link := by
  rfl
@[simp] theorem sendStationReport_slp_supervision (m : Message) (s : State) : (sendStationReport m s).slp.supervision = s.slp.supervision := by
  rfl
@[simp] theorem sendStationReport_slp_flags (m : Message) (s : State) : (sendStationReport m s).slp.flags = s.slp.flags := by
  rfl
@[simp] theorem sendStationReport_slp_enables (m : Message) (s : State) : (sendStationReport m s).slp.enables = s.slp.enables := by
  rfl
@[simp] theorem sendStationStatus_slp_link (s : State) : (sendStationStatus s).slp.link = s.slp.link := by
  rfl
@[simp] theorem sendStationStatus_slp_supervision (s : State) : (sendStationStatus s).slp.supervision = s.slp.supervision := by
  rfl
@[simp] theorem sendStationStatus_slp_flags (s : State) : (sendStationStatus s).slp.flags = s.slp.flags := by
  rfl
@[simp] theorem sendStationStatus_slp_enables (s : State) : (sendStationStatus s).slp.enables = s.slp.enables := by
  rfl
@[simp] theorem storeStationValues_slp_link (s0 s : State) : (storeStationValues s0 s).slp.link = s.slp.link := by
  unfold storeStationValues; split <;> rfl
@[simp] theorem storeStationValues_slp_supervision (s0 s : State) : (storeStationValues s0 s).slp.supervision = s.slp.supervision := by
  unfold storeStationValues; split <;> rfl
@[simp] theorem storeStationValues_slp_flags (s0 s : State) : (storeStationValues s0 s).slp.flags = s.slp.flags := by
  unfold storeStationValues; split <;> rfl
@[simp] theorem storeStationValues_slp_enables (s0 s : State) : (storeStationValues s0 s).slp.enables = s.slp.enables := by
  unfold storeStationValues; split <;> rfl
@[simp] theorem handSlp_slp_link (due : Bool) (s0 s : State) : (handSlp due s0 s).slp.link = s.slp.link := by
  unfold handSlp; dsimp only; split <;> simp
@[simp] theorem handSlp_slp_supervision (due : Bool) (s0 s : State) : (handSlp due s0 s).slp.supervision = s.slp.supervision := by
  unfold handSlp; dsimp only; split <;> simp
@[simp] theorem handSlp_slp_flags (due : Bool) (s0 s : State) : (handSlp due s0 s).slp.flags = s.slp.flags := by
  unfold handSlp; dsimp only; split <;> simp
@[simp] theorem handSlp_slp_enables (due : Bool) (s0 s : State) : (handSlp due s0 s).slp.enables = s.slp.enables := by
  unfold handSlp; dsimp only; split <;> simp

/-! ## Reports come after what was sent before them -/


@[simp] theorem sendTrainReport_sent (m : Message) (s : State) : (sendTrainReport m s).sent =
    s.sent ++ [.frame .train (s.tlp.sessionVersion.getD .v2) s.tlp.reportSeq m] := rfl
@[simp] theorem sendIlReport_sent (m : Message) (s : State) : (sendIlReport m s).sent =
    s.sent ++ [.frame .interlocking .v2 s.ilp.reportSeq m] := rfl
@[simp] theorem sendStationReport_sent (m : Message) (s : State) : (sendStationReport m s).sent =
    s.sent ++ [.frame .station .v2 s.slp.reportSeq m] := rfl
@[simp] theorem sendPlatformState_sent (s : State) : (sendPlatformState s).sent =
    s.sent ++ [.frame .interlocking .v2 s.ilp.reportSeq (.platformState s.ilp.values)] := rfl
@[simp] theorem sendStationStatus_sent (s : State) : (sendStationStatus s).sent =
    s.sent ++ [.frame .station .v2 s.slp.reportSeq (.stationStatus s.slp.flags s.slp.enables s.slp.values)] := rfl
@[simp] theorem sendBerthStatus_sent (s : State) : (sendBerthStatus s).sent =
    s.sent ++ [.frame .train (s.tlp.sessionVersion.getD .v2) s.tlp.reportSeq
      (.berthStatus s.tlp.sessionTrainId s.tlp.values)] := rfl

theorem sendSummary_appends (s : State) : ∃ l, (sendSummary s).sent = s.sent ++ l := by
  unfold sendSummary
  split
  · exact ⟨_, sendTrainReport_sent _ _⟩
  · exact ⟨[], by simp⟩

theorem handTlp_appends (due : Bool) (s0 s : State) : ∃ l, (handTlp due s0 s).sent = s.sent ++ l := by
  unfold handTlp
  dsimp only
  split
  · split <;> split
    · obtain ⟨l, hl⟩ := sendSummary_appends (sendBerthStatus (storeTrainValues s0 s))
      rw [sendBerthStatus_sent, storeTrainValues_sent, List.append_assoc] at hl
      exact ⟨_, hl⟩
    · exact ⟨_, by rw [sendBerthStatus_sent, storeTrainValues_sent]⟩
    · obtain ⟨l, hl⟩ := sendSummary_appends (storeTrainValues s0 s)
      exact ⟨l, by simpa using hl⟩
    · exact ⟨[], by simp⟩
  · exact ⟨[], by simp⟩

theorem handIlp_appends (due : Bool) (s0 s : State) : ∃ l, (handIlp due s0 s).sent = s.sent ++ l := by
  unfold handIlp
  dsimp only
  split
  · exact ⟨_, by rw [sendPlatformState_sent, storeIlValues_sent]⟩
  · exact ⟨[], by simp⟩

theorem handSlp_appends (due : Bool) (s0 s : State) : ∃ l, (handSlp due s0 s).sent = s.sent ++ l := by
  unfold handSlp
  dsimp only
  split
  · exact ⟨_, by rw [sendStationStatus_sent, storeStationValues_sent]⟩
  · exact ⟨[], by simp⟩

/-- What the end of a command sends comes after what was sent before it. -/
theorem handPorts_appends (due : Due) (s0 s : State) : ∃ l, (handPorts due s0 s).sent = s.sent ++ l := by
  obtain ⟨l1, h1⟩ := handTlp_appends due.train s0 s
  obtain ⟨l2, h2⟩ := handIlp_appends due.interlocking s0 (handTlp due.train s0 s)
  obtain ⟨l3, h3⟩ := handSlp_appends due.station s0 (handIlp due.interlocking s0 (handTlp due.train s0 s))
  exact ⟨l1 ++ l2 ++ l3, by unfold handPorts; rw [h3, h2, h1]; simp [List.append_assoc]⟩

/-! ## The three ports together -/

@[simp] theorem handPorts_geo (due : Due) (s0 s : State) : (handPorts due s0 s).geo = s.geo := by
  simp [handPorts]
@[simp] theorem handPorts_store (due : Due) (s0 s : State) : (handPorts due s0 s).store = s.store := by
  simp [handPorts]
@[simp] theorem handPorts_readerA (due : Due) (s0 s : State) : (handPorts due s0 s).readerA = s.readerA := by
  simp [handPorts]
@[simp] theorem handPorts_readerB (due : Due) (s0 s : State) : (handPorts due s0 s).readerB = s.readerB := by
  simp [handPorts]
@[simp] theorem handPorts_berth (due : Due) (s0 s : State) : (handPorts due s0 s).berth = s.berth := by
  simp [handPorts]
@[simp] theorem handPorts_stopSettle (due : Due) (s0 s : State) : (handPorts due s0 s).stopSettle = s.stopSettle := by
  simp [handPorts]
@[simp] theorem handPorts_checkOwed (due : Due) (s0 s : State) : (handPorts due s0 s).checkOwed = s.checkOwed := by
  simp [handPorts]
@[simp] theorem handPorts_departureQuiet (due : Due) (s0 s : State) : (handPorts due s0 s).departureQuiet = s.departureQuiet := by
  simp [handPorts]
@[simp] theorem handPorts_dlc (due : Due) (s0 s : State) : (handPorts due s0 s).dlc = s.dlc := by
  simp [handPorts]
@[simp] theorem handPorts_ssc (due : Due) (s0 s : State) : (handPorts due s0 s).ssc = s.ssc := by
  simp [handPorts]
@[simp] theorem handPorts_rlm (due : Due) (s0 s : State) : (handPorts due s0 s).rlm = s.rlm := by
  simp [handPorts]
@[simp] theorem handPorts_scl (due : Due) (s0 s : State) : (handPorts due s0 s).scl = s.scl := by
  simp [handPorts]
@[simp] theorem handPorts_mac (due : Due) (s0 s : State) : (handPorts due s0 s).mac = s.mac := by
  simp [handPorts]
@[simp] theorem handPorts_summaryDue (due : Due) (s0 s : State) : (handPorts due s0 s).summaryDue = s.summaryDue := by
  simp [handPorts]
@[simp] theorem handPorts_restartDue (due : Due) (s0 s : State) : (handPorts due s0 s).restartDue = s.restartDue := by
  simp [handPorts]
@[simp] theorem handPorts_pending (due : Due) (s0 s : State) : (handPorts due s0 s).pending = s.pending := by
  simp [handPorts]
@[simp] theorem handPorts_tlp_link (due : Due) (s0 s : State) : (handPorts due s0 s).tlp.link = s.tlp.link := by
  simp [handPorts]
@[simp] theorem handPorts_tlp_supervision (due : Due) (s0 s : State) : (handPorts due s0 s).tlp.supervision = s.tlp.supervision := by
  simp [handPorts]
@[simp] theorem handPorts_tlp_session (due : Due) (s0 s : State) : (handPorts due s0 s).tlp.session = s.tlp.session := by
  simp [handPorts]
@[simp] theorem handPorts_tlp_sessionVersion (due : Due) (s0 s : State) : (handPorts due s0 s).tlp.sessionVersion = s.tlp.sessionVersion := by
  simp [handPorts]
@[simp] theorem handPorts_tlp_sessionTrainId (due : Due) (s0 s : State) : (handPorts due s0 s).tlp.sessionTrainId = s.tlp.sessionTrainId := by
  simp [handPorts]
@[simp] theorem handPorts_tlp_heldSummary (due : Due) (s0 s : State) : (handPorts due s0 s).tlp.heldSummary = s.tlp.heldSummary := by
  simp [handPorts]
@[simp] theorem handPorts_ilp_link (due : Due) (s0 s : State) : (handPorts due s0 s).ilp.link = s.ilp.link := by
  simp [handPorts]
@[simp] theorem handPorts_ilp_supervision (due : Due) (s0 s : State) : (handPorts due s0 s).ilp.supervision = s.ilp.supervision := by
  simp [handPorts]
@[simp] theorem handPorts_slp_link (due : Due) (s0 s : State) : (handPorts due s0 s).slp.link = s.slp.link := by
  simp [handPorts]
@[simp] theorem handPorts_slp_supervision (due : Due) (s0 s : State) : (handPorts due s0 s).slp.supervision = s.slp.supervision := by
  simp [handPorts]
@[simp] theorem handPorts_slp_flags (due : Due) (s0 s : State) : (handPorts due s0 s).slp.flags = s.slp.flags := by
  simp [handPorts]
@[simp] theorem handPorts_slp_enables (due : Due) (s0 s : State) : (handPorts due s0 s).slp.enables = s.slp.enables := by
  simp [handPorts]

/-! ## The copies handed before anything is sent -/

@[simp] theorem followArrivingQuiet_geo (s0 s : State) : (followArrivingQuiet s0 s).geo = s.geo := by
  unfold followArrivingQuiet; split <;> (try split) <;> rfl
@[simp] theorem followArrivingQuiet_store (s0 s : State) : (followArrivingQuiet s0 s).store = s.store := by
  unfold followArrivingQuiet; split <;> (try split) <;> rfl
@[simp] theorem followArrivingQuiet_readerA (s0 s : State) : (followArrivingQuiet s0 s).readerA = s.readerA := by
  unfold followArrivingQuiet; split <;> (try split) <;> rfl
@[simp] theorem followArrivingQuiet_readerB (s0 s : State) : (followArrivingQuiet s0 s).readerB = s.readerB := by
  unfold followArrivingQuiet; split <;> (try split) <;> rfl
@[simp] theorem followArrivingQuiet_berth (s0 s : State) : (followArrivingQuiet s0 s).berth = s.berth := by
  unfold followArrivingQuiet; split <;> (try split) <;> rfl
@[simp] theorem followArrivingQuiet_stopSettle (s0 s : State) : (followArrivingQuiet s0 s).stopSettle = s.stopSettle := by
  unfold followArrivingQuiet; split <;> (try split) <;> rfl
@[simp] theorem followArrivingQuiet_checkOwed (s0 s : State) : (followArrivingQuiet s0 s).checkOwed = s.checkOwed := by
  unfold followArrivingQuiet; split <;> (try split) <;> rfl
@[simp] theorem followArrivingQuiet_dlc (s0 s : State) : (followArrivingQuiet s0 s).dlc = s.dlc := by
  unfold followArrivingQuiet; split <;> (try split) <;> rfl
@[simp] theorem followArrivingQuiet_ssc (s0 s : State) : (followArrivingQuiet s0 s).ssc = s.ssc := by
  unfold followArrivingQuiet; split <;> (try split) <;> rfl
@[simp] theorem followArrivingQuiet_rlm (s0 s : State) : (followArrivingQuiet s0 s).rlm = s.rlm := by
  unfold followArrivingQuiet; split <;> (try split) <;> rfl
@[simp] theorem followArrivingQuiet_scl (s0 s : State) : (followArrivingQuiet s0 s).scl = s.scl := by
  unfold followArrivingQuiet; split <;> (try split) <;> rfl
@[simp] theorem followArrivingQuiet_mac (s0 s : State) : (followArrivingQuiet s0 s).mac = s.mac := by
  unfold followArrivingQuiet; split <;> (try split) <;> rfl
@[simp] theorem followArrivingQuiet_tlp (s0 s : State) : (followArrivingQuiet s0 s).tlp = s.tlp := by
  unfold followArrivingQuiet; split <;> (try split) <;> rfl
@[simp] theorem followArrivingQuiet_ilp (s0 s : State) : (followArrivingQuiet s0 s).ilp = s.ilp := by
  unfold followArrivingQuiet; split <;> (try split) <;> rfl
@[simp] theorem followArrivingQuiet_slp (s0 s : State) : (followArrivingQuiet s0 s).slp = s.slp := by
  unfold followArrivingQuiet; split <;> (try split) <;> rfl
@[simp] theorem followArrivingQuiet_sent (s0 s : State) : (followArrivingQuiet s0 s).sent = s.sent := by
  unfold followArrivingQuiet; split <;> (try split) <;> rfl
@[simp] theorem followArrivingQuiet_summaryDue (s0 s : State) : (followArrivingQuiet s0 s).summaryDue = s.summaryDue := by
  unfold followArrivingQuiet; split <;> (try split) <;> rfl
@[simp] theorem followArrivingQuiet_restartDue (s0 s : State) : (followArrivingQuiet s0 s).restartDue = s.restartDue := by
  unfold followArrivingQuiet; split <;> (try split) <;> rfl
@[simp] theorem followArrivingQuiet_pending (s0 s : State) : (followArrivingQuiet s0 s).pending = s.pending := by
  unfold followArrivingQuiet; split <;> (try split) <;> rfl
@[simp] theorem handMac_geo (s0 s : State) : (handMac s0 s).geo = s.geo := by
  unfold handMac; (try dsimp only); split <;> rfl
@[simp] theorem handMac_store (s0 s : State) : (handMac s0 s).store = s.store := by
  unfold handMac; (try dsimp only); split <;> rfl
@[simp] theorem handMac_readerA (s0 s : State) : (handMac s0 s).readerA = s.readerA := by
  unfold handMac; (try dsimp only); split <;> rfl
@[simp] theorem handMac_readerB (s0 s : State) : (handMac s0 s).readerB = s.readerB := by
  unfold handMac; (try dsimp only); split <;> rfl
@[simp] theorem handMac_berth (s0 s : State) : (handMac s0 s).berth = s.berth := by
  unfold handMac; (try dsimp only); split <;> rfl
@[simp] theorem handMac_stopSettle (s0 s : State) : (handMac s0 s).stopSettle = s.stopSettle := by
  unfold handMac; (try dsimp only); split <;> rfl
@[simp] theorem handMac_checkOwed (s0 s : State) : (handMac s0 s).checkOwed = s.checkOwed := by
  unfold handMac; (try dsimp only); split <;> rfl
@[simp] theorem handMac_departureQuiet (s0 s : State) : (handMac s0 s).departureQuiet = s.departureQuiet := by
  unfold handMac; (try dsimp only); split <;> rfl
@[simp] theorem handMac_dlc (s0 s : State) : (handMac s0 s).dlc = s.dlc := by
  unfold handMac; (try dsimp only); split <;> rfl
@[simp] theorem handMac_ssc (s0 s : State) : (handMac s0 s).ssc = s.ssc := by
  unfold handMac; (try dsimp only); split <;> rfl
@[simp] theorem handMac_rlm (s0 s : State) : (handMac s0 s).rlm = s.rlm := by
  unfold handMac; (try dsimp only); split <;> rfl
@[simp] theorem handMac_scl (s0 s : State) : (handMac s0 s).scl = s.scl := by
  unfold handMac; (try dsimp only); split <;> rfl
@[simp] theorem handMac_tlp (s0 s : State) : (handMac s0 s).tlp = s.tlp := by
  unfold handMac; (try dsimp only); split <;> rfl
@[simp] theorem handMac_ilp (s0 s : State) : (handMac s0 s).ilp = s.ilp := by
  unfold handMac; (try dsimp only); split <;> rfl
@[simp] theorem handMac_slp (s0 s : State) : (handMac s0 s).slp = s.slp := by
  unfold handMac; (try dsimp only); split <;> rfl
@[simp] theorem handMac_sent (s0 s : State) : (handMac s0 s).sent = s.sent := by
  unfold handMac; (try dsimp only); split <;> rfl
@[simp] theorem handMac_summaryDue (s0 s : State) : (handMac s0 s).summaryDue = s.summaryDue := by
  unfold handMac; (try dsimp only); split <;> rfl
@[simp] theorem handMac_restartDue (s0 s : State) : (handMac s0 s).restartDue = s.restartDue := by
  unfold handMac; (try dsimp only); split <;> rfl
@[simp] theorem handMac_pending (s0 s : State) : (handMac s0 s).pending = s.pending := by
  unfold handMac; (try dsimp only); split <;> rfl
@[simp] theorem handSsc_geo (s0 s : State) : (handSsc s0 s).geo = s.geo := by
  unfold handSsc; (try dsimp only); split <;> rfl
@[simp] theorem handSsc_store (s0 s : State) : (handSsc s0 s).store = s.store := by
  unfold handSsc; (try dsimp only); split <;> rfl
@[simp] theorem handSsc_readerA (s0 s : State) : (handSsc s0 s).readerA = s.readerA := by
  unfold handSsc; (try dsimp only); split <;> rfl
@[simp] theorem handSsc_readerB (s0 s : State) : (handSsc s0 s).readerB = s.readerB := by
  unfold handSsc; (try dsimp only); split <;> rfl
@[simp] theorem handSsc_berth (s0 s : State) : (handSsc s0 s).berth = s.berth := by
  unfold handSsc; (try dsimp only); split <;> rfl
@[simp] theorem handSsc_stopSettle (s0 s : State) : (handSsc s0 s).stopSettle = s.stopSettle := by
  unfold handSsc; (try dsimp only); split <;> rfl
@[simp] theorem handSsc_checkOwed (s0 s : State) : (handSsc s0 s).checkOwed = s.checkOwed := by
  unfold handSsc; (try dsimp only); split <;> rfl
@[simp] theorem handSsc_departureQuiet (s0 s : State) : (handSsc s0 s).departureQuiet = s.departureQuiet := by
  unfold handSsc; (try dsimp only); split <;> rfl
@[simp] theorem handSsc_dlc (s0 s : State) : (handSsc s0 s).dlc = s.dlc := by
  unfold handSsc; (try dsimp only); split <;> rfl
@[simp] theorem handSsc_rlm (s0 s : State) : (handSsc s0 s).rlm = s.rlm := by
  unfold handSsc; (try dsimp only); split <;> rfl
@[simp] theorem handSsc_scl (s0 s : State) : (handSsc s0 s).scl = s.scl := by
  unfold handSsc; (try dsimp only); split <;> rfl
@[simp] theorem handSsc_mac (s0 s : State) : (handSsc s0 s).mac = s.mac := by
  unfold handSsc; (try dsimp only); split <;> rfl
@[simp] theorem handSsc_tlp (s0 s : State) : (handSsc s0 s).tlp = s.tlp := by
  unfold handSsc; (try dsimp only); split <;> rfl
@[simp] theorem handSsc_ilp (s0 s : State) : (handSsc s0 s).ilp = s.ilp := by
  unfold handSsc; (try dsimp only); split <;> rfl
@[simp] theorem handSsc_slp (s0 s : State) : (handSsc s0 s).slp = s.slp := by
  unfold handSsc; (try dsimp only); split <;> rfl
@[simp] theorem handSsc_sent (s0 s : State) : (handSsc s0 s).sent = s.sent := by
  unfold handSsc; (try dsimp only); split <;> rfl
@[simp] theorem handSsc_summaryDue (s0 s : State) : (handSsc s0 s).summaryDue = s.summaryDue := by
  unfold handSsc; (try dsimp only); split <;> rfl
@[simp] theorem handSsc_restartDue (s0 s : State) : (handSsc s0 s).restartDue = s.restartDue := by
  unfold handSsc; (try dsimp only); split <;> rfl
@[simp] theorem handSsc_pending (s0 s : State) : (handSsc s0 s).pending = s.pending := by
  unfold handSsc; (try dsimp only); split <;> rfl
@[simp] theorem handScl_geo (s0 s : State) : (handScl s0 s).geo = s.geo := by
  unfold handScl; (try dsimp only); split <;> rfl
@[simp] theorem handScl_store (s0 s : State) : (handScl s0 s).store = s.store := by
  unfold handScl; (try dsimp only); split <;> rfl
@[simp] theorem handScl_readerA (s0 s : State) : (handScl s0 s).readerA = s.readerA := by
  unfold handScl; (try dsimp only); split <;> rfl
@[simp] theorem handScl_readerB (s0 s : State) : (handScl s0 s).readerB = s.readerB := by
  unfold handScl; (try dsimp only); split <;> rfl
@[simp] theorem handScl_berth (s0 s : State) : (handScl s0 s).berth = s.berth := by
  unfold handScl; (try dsimp only); split <;> rfl
@[simp] theorem handScl_stopSettle (s0 s : State) : (handScl s0 s).stopSettle = s.stopSettle := by
  unfold handScl; (try dsimp only); split <;> rfl
@[simp] theorem handScl_checkOwed (s0 s : State) : (handScl s0 s).checkOwed = s.checkOwed := by
  unfold handScl; (try dsimp only); split <;> rfl
@[simp] theorem handScl_departureQuiet (s0 s : State) : (handScl s0 s).departureQuiet = s.departureQuiet := by
  unfold handScl; (try dsimp only); split <;> rfl
@[simp] theorem handScl_dlc (s0 s : State) : (handScl s0 s).dlc = s.dlc := by
  unfold handScl; (try dsimp only); split <;> rfl
@[simp] theorem handScl_ssc (s0 s : State) : (handScl s0 s).ssc = s.ssc := by
  unfold handScl; (try dsimp only); split <;> rfl
@[simp] theorem handScl_rlm (s0 s : State) : (handScl s0 s).rlm = s.rlm := by
  unfold handScl; (try dsimp only); split <;> rfl
@[simp] theorem handScl_mac (s0 s : State) : (handScl s0 s).mac = s.mac := by
  unfold handScl; (try dsimp only); split <;> rfl
@[simp] theorem handScl_tlp (s0 s : State) : (handScl s0 s).tlp = s.tlp := by
  unfold handScl; (try dsimp only); split <;> rfl
@[simp] theorem handScl_ilp (s0 s : State) : (handScl s0 s).ilp = s.ilp := by
  unfold handScl; (try dsimp only); split <;> rfl
@[simp] theorem handScl_slp (s0 s : State) : (handScl s0 s).slp = s.slp := by
  unfold handScl; (try dsimp only); split <;> rfl
@[simp] theorem handScl_sent (s0 s : State) : (handScl s0 s).sent = s.sent := by
  unfold handScl; (try dsimp only); split <;> rfl
@[simp] theorem handScl_summaryDue (s0 s : State) : (handScl s0 s).summaryDue = s.summaryDue := by
  unfold handScl; (try dsimp only); split <;> rfl
@[simp] theorem handScl_restartDue (s0 s : State) : (handScl s0 s).restartDue = s.restartDue := by
  unfold handScl; (try dsimp only); split <;> rfl
@[simp] theorem handScl_pending (s0 s : State) : (handScl s0 s).pending = s.pending := by
  unfold handScl; (try dsimp only); split <;> rfl
@[simp] theorem handCopies_geo (s0 s : State) : (handCopies s0 s).geo = s.geo := by
  simp [handCopies]
@[simp] theorem handCopies_store (s0 s : State) : (handCopies s0 s).store = s.store := by
  simp [handCopies]
@[simp] theorem handCopies_readerA (s0 s : State) : (handCopies s0 s).readerA = s.readerA := by
  simp [handCopies]
@[simp] theorem handCopies_readerB (s0 s : State) : (handCopies s0 s).readerB = s.readerB := by
  simp [handCopies]
@[simp] theorem handCopies_berth (s0 s : State) : (handCopies s0 s).berth = s.berth := by
  simp [handCopies]
@[simp] theorem handCopies_stopSettle (s0 s : State) : (handCopies s0 s).stopSettle = s.stopSettle := by
  simp [handCopies]
@[simp] theorem handCopies_checkOwed (s0 s : State) : (handCopies s0 s).checkOwed = s.checkOwed := by
  simp [handCopies]
@[simp] theorem handCopies_dlc (s0 s : State) : (handCopies s0 s).dlc = s.dlc := by
  simp [handCopies]
@[simp] theorem handCopies_rlm (s0 s : State) : (handCopies s0 s).rlm = s.rlm := by
  simp [handCopies]
@[simp] theorem handCopies_tlp (s0 s : State) : (handCopies s0 s).tlp = s.tlp := by
  simp [handCopies]
@[simp] theorem handCopies_ilp (s0 s : State) : (handCopies s0 s).ilp = s.ilp := by
  simp [handCopies]
@[simp] theorem handCopies_slp (s0 s : State) : (handCopies s0 s).slp = s.slp := by
  simp [handCopies]
@[simp] theorem handCopies_sent (s0 s : State) : (handCopies s0 s).sent = s.sent := by
  simp [handCopies]
@[simp] theorem handCopies_summaryDue (s0 s : State) : (handCopies s0 s).summaryDue = s.summaryDue := by
  simp [handCopies]
@[simp] theorem handCopies_restartDue (s0 s : State) : (handCopies s0 s).restartDue = s.restartDue := by
  simp [handCopies]
@[simp] theorem handCopies_pending (s0 s : State) : (handCopies s0 s).pending = s.pending := by
  simp [handCopies]

@[simp] theorem handSsc_ssc_channels (s0 s : State) : (handSsc s0 s).ssc.channels = s.ssc.channels := by
  unfold handSsc; split <;> rfl
@[simp] theorem handSsc_ssc_lastConverted (s0 s : State) :
    (handSsc s0 s).ssc.lastConverted = s.ssc.lastConverted := by
  unfold handSsc; split <;> rfl
@[simp] theorem handSsc_ssc_inFlight (s0 s : State) :
    (handSsc s0 s).ssc.inFlight = s.ssc.inFlight := by
  unfold handSsc; split <;> rfl
@[simp] theorem handMac_mac_mode (s0 s : State) : (handMac s0 s).mac.mode = s.mac.mode := by
  unfold handMac; split <;> rfl
@[simp] theorem handCopies_ssc_channels (s0 s : State) : (handCopies s0 s).ssc.channels = s.ssc.channels := by
  simp [handCopies]
@[simp] theorem handCopies_ssc_lastConverted (s0 s : State) :
    (handCopies s0 s).ssc.lastConverted = s.ssc.lastConverted := by
  simp [handCopies]
@[simp] theorem handCopies_ssc_inFlight (s0 s : State) :
    (handCopies s0 s).ssc.inFlight = s.ssc.inFlight := by
  simp [handCopies]

/-- The MAC's record changes only with the berth state (R138, R150). -/
theorem handCopies_mac (s0 s : State) : (handCopies s0 s).mac =
    if s.berth.state = s0.berth.state then s.mac
    else
      { s.mac with
        berthView := s.berth.state
        test := if s.berth.state = .empty then s.mac.test else abortTest .berth s.mac.test } := by
  have h : (handCopies s0 s).mac = (handMac s0 (followArrivingQuiet s0 s)).mac := by simp [handCopies]
  rw [h]
  unfold handMac
  simp only [followArrivingQuiet_berth, followArrivingQuiet_mac]
  split <;> simp_all

/-- The departure quiet time after the ARRIVING conditions have been followed (R58). -/
theorem handCopies_departureQuiet (s0 s : State) : (handCopies s0 s).departureQuiet =
    if arrivingQuiet s && !arrivingQuiet s0 then some Config.departureQuiet
    else if arrivingQuiet s0 && !arrivingQuiet s && s.berth.state != .departing then none
    else s.departureQuiet := by
  have h : (handCopies s0 s).departureQuiet = (followArrivingQuiet s0 s).departureQuiet := by simp [handCopies]
  rw [h]
  unfold followArrivingQuiet
  split
  · simp
  · split <;> simp

/-- What the SCL reads of a state does not change while the copies are handed. -/
theorem sclInputOf_before_handScl (s0 s : State) :
    sclInputOf (handSsc s0 (handMac s0 (followArrivingQuiet s0 s))) = sclInputOf s := by
  simp [sclInputOf, doorAt, channelAt]

/-- The SCL takes its inputs when they have changed, and stays as it is otherwise (R127). -/
theorem handCopies_scl (s0 s : State) : (handCopies s0 s).scl =
    if sclInputOf s = sclInputOf s0 then s.scl
    else sclTake (sclInputOf s) s.geo.timers.secureConfirm s.scl := by
  unfold handCopies handScl
  dsimp only
  rw [sclInputOf_before_handScl]
  split <;> simp

/-- The tracking inputs are handed when the berth state or a door state has changed (R90). -/
theorem handCopies_ssc (s0 s : State) : (handCopies s0 s).ssc =
    if s.berth.state = s0.berth.state ∧ doorStatesOf s = doorStatesOf s0 then s.ssc
    else { s.ssc with berthView := s.berth.state, doorViews := doorStatesOf s } := by
  have h : (handCopies s0 s).ssc = (handSsc s0 (handMac s0 (followArrivingQuiet s0 s))).ssc := by simp [handCopies]
  rw [h]
  unfold handSsc
  have hd : doorStatesOf (handMac s0 (followArrivingQuiet s0 s)) = doorStatesOf s := by simp [doorStatesOf, doorAt]
  simp only [hd, handMac_berth, followArrivingQuiet_berth]
  split <;> simp

/-! ## The end of an event and of a request -/

@[simp] theorem finish_geo (due : Due) (s0 s : State) : (finish due s0 s).geo = s.geo := by
  simp [finish]
@[simp] theorem finish_store (due : Due) (s0 s : State) : (finish due s0 s).store = s.store := by
  simp [finish]
@[simp] theorem finish_readerA (due : Due) (s0 s : State) : (finish due s0 s).readerA = s.readerA := by
  simp [finish]
@[simp] theorem finish_readerB (due : Due) (s0 s : State) : (finish due s0 s).readerB = s.readerB := by
  simp [finish]
@[simp] theorem finish_berth (due : Due) (s0 s : State) : (finish due s0 s).berth = s.berth := by
  simp [finish]
@[simp] theorem finish_stopSettle (due : Due) (s0 s : State) : (finish due s0 s).stopSettle = s.stopSettle := by
  simp [finish]
@[simp] theorem finish_checkOwed (due : Due) (s0 s : State) : (finish due s0 s).checkOwed = s.checkOwed := by
  simp [finish]
@[simp] theorem finish_dlc (due : Due) (s0 s : State) : (finish due s0 s).dlc = s.dlc := by
  simp [finish]
@[simp] theorem finish_rlm (due : Due) (s0 s : State) : (finish due s0 s).rlm = s.rlm := by
  simp [finish]
@[simp] theorem finish_summaryDue (due : Due) (s0 s : State) : (finish due s0 s).summaryDue = s.summaryDue := by
  simp [finish]
@[simp] theorem finish_restartDue (due : Due) (s0 s : State) : (finish due s0 s).restartDue = s.restartDue := by
  simp [finish]
@[simp] theorem finish_pending (due : Due) (s0 s : State) : (finish due s0 s).pending = s.pending := by
  simp [finish]
@[simp] theorem finish_tlp_link (due : Due) (s0 s : State) : (finish due s0 s).tlp.link = s.tlp.link := by
  simp [finish]
@[simp] theorem finish_tlp_supervision (due : Due) (s0 s : State) : (finish due s0 s).tlp.supervision = s.tlp.supervision := by
  simp [finish]
@[simp] theorem finish_tlp_session (due : Due) (s0 s : State) : (finish due s0 s).tlp.session = s.tlp.session := by
  simp [finish]
@[simp] theorem finish_tlp_sessionVersion (due : Due) (s0 s : State) : (finish due s0 s).tlp.sessionVersion = s.tlp.sessionVersion := by
  simp [finish]
@[simp] theorem finish_tlp_sessionTrainId (due : Due) (s0 s : State) : (finish due s0 s).tlp.sessionTrainId = s.tlp.sessionTrainId := by
  simp [finish]
@[simp] theorem finish_tlp_heldSummary (due : Due) (s0 s : State) : (finish due s0 s).tlp.heldSummary = s.tlp.heldSummary := by
  simp [finish]
@[simp] theorem finish_ilp_link (due : Due) (s0 s : State) : (finish due s0 s).ilp.link = s.ilp.link := by
  simp [finish]
@[simp] theorem finish_ilp_supervision (due : Due) (s0 s : State) : (finish due s0 s).ilp.supervision = s.ilp.supervision := by
  simp [finish]
@[simp] theorem finish_slp_link (due : Due) (s0 s : State) : (finish due s0 s).slp.link = s.slp.link := by
  simp [finish]
@[simp] theorem finish_slp_supervision (due : Due) (s0 s : State) : (finish due s0 s).slp.supervision = s.slp.supervision := by
  simp [finish]
@[simp] theorem finish_slp_flags (due : Due) (s0 s : State) : (finish due s0 s).slp.flags = s.slp.flags := by
  simp [finish]
@[simp] theorem finish_slp_enables (due : Due) (s0 s : State) : (finish due s0 s).slp.enables = s.slp.enables := by
  simp [finish]
theorem finish_mac (due : Due) (s0 s : State) : (finish due s0 s).mac = (handCopies s0 s).mac := by
  simp [finish]
theorem finish_scl (due : Due) (s0 s : State) : (finish due s0 s).scl = (handCopies s0 s).scl := by
  simp [finish]
theorem finish_ssc (due : Due) (s0 s : State) : (finish due s0 s).ssc = (handCopies s0 s).ssc := by
  simp [finish]
theorem finish_departureQuiet (due : Due) (s0 s : State) : (finish due s0 s).departureQuiet = (handCopies s0 s).departureQuiet := by
  simp [finish]
@[simp] theorem finish_channels (due : Due) (s0 s : State) :
    (finish due s0 s).ssc.channels = s.ssc.channels := by
  simp [finish]
@[simp] theorem finish_lastConverted (due : Due) (s0 s : State) :
    (finish due s0 s).ssc.lastConverted = s.ssc.lastConverted := by
  simp [finish]
@[simp] theorem finish_inFlight (due : Due) (s0 s : State) :
    (finish due s0 s).ssc.inFlight = s.ssc.inFlight := by
  simp [finish]

@[simp] theorem finishRequest_geo (f : Frame) (k : Byte) (due : Due) (s0 : State) (a : Answer) :
    (finishRequest f k due s0 a).geo = a.state.geo := by
  simp [finishRequest]
@[simp] theorem finishRequest_store (f : Frame) (k : Byte) (due : Due) (s0 : State) (a : Answer) :
    (finishRequest f k due s0 a).store = a.state.store := by
  simp [finishRequest]
@[simp] theorem finishRequest_readerA (f : Frame) (k : Byte) (due : Due) (s0 : State) (a : Answer) :
    (finishRequest f k due s0 a).readerA = a.state.readerA := by
  simp [finishRequest]
@[simp] theorem finishRequest_readerB (f : Frame) (k : Byte) (due : Due) (s0 : State) (a : Answer) :
    (finishRequest f k due s0 a).readerB = a.state.readerB := by
  simp [finishRequest]
@[simp] theorem finishRequest_berth (f : Frame) (k : Byte) (due : Due) (s0 : State) (a : Answer) :
    (finishRequest f k due s0 a).berth = a.state.berth := by
  simp [finishRequest]
@[simp] theorem finishRequest_stopSettle (f : Frame) (k : Byte) (due : Due) (s0 : State) (a : Answer) :
    (finishRequest f k due s0 a).stopSettle = a.state.stopSettle := by
  simp [finishRequest]
@[simp] theorem finishRequest_checkOwed (f : Frame) (k : Byte) (due : Due) (s0 : State) (a : Answer) :
    (finishRequest f k due s0 a).checkOwed = a.state.checkOwed := by
  simp [finishRequest]
@[simp] theorem finishRequest_dlc (f : Frame) (k : Byte) (due : Due) (s0 : State) (a : Answer) :
    (finishRequest f k due s0 a).dlc = a.state.dlc := by
  simp [finishRequest]
@[simp] theorem finishRequest_rlm (f : Frame) (k : Byte) (due : Due) (s0 : State) (a : Answer) :
    (finishRequest f k due s0 a).rlm = a.state.rlm := by
  simp [finishRequest]
@[simp] theorem finishRequest_summaryDue (f : Frame) (k : Byte) (due : Due) (s0 : State) (a : Answer) :
    (finishRequest f k due s0 a).summaryDue = a.state.summaryDue := by
  simp [finishRequest]
@[simp] theorem finishRequest_restartDue (f : Frame) (k : Byte) (due : Due) (s0 : State) (a : Answer) :
    (finishRequest f k due s0 a).restartDue = a.state.restartDue := by
  simp [finishRequest]
@[simp] theorem finishRequest_pending (f : Frame) (k : Byte) (due : Due) (s0 : State) (a : Answer) :
    (finishRequest f k due s0 a).pending = a.state.pending := by
  simp [finishRequest]
@[simp] theorem finishRequest_tlp_link (f : Frame) (k : Byte) (due : Due) (s0 : State) (a : Answer) :
    (finishRequest f k due s0 a).tlp.link = a.state.tlp.link := by
  simp [finishRequest]
@[simp] theorem finishRequest_tlp_supervision (f : Frame) (k : Byte) (due : Due) (s0 : State) (a : Answer) :
    (finishRequest f k due s0 a).tlp.supervision = a.state.tlp.supervision := by
  simp [finishRequest]
@[simp] theorem finishRequest_tlp_session (f : Frame) (k : Byte) (due : Due) (s0 : State) (a : Answer) :
    (finishRequest f k due s0 a).tlp.session = a.state.tlp.session := by
  simp [finishRequest]
@[simp] theorem finishRequest_tlp_sessionVersion (f : Frame) (k : Byte) (due : Due) (s0 : State) (a : Answer) :
    (finishRequest f k due s0 a).tlp.sessionVersion = a.state.tlp.sessionVersion := by
  simp [finishRequest]
@[simp] theorem finishRequest_tlp_sessionTrainId (f : Frame) (k : Byte) (due : Due) (s0 : State) (a : Answer) :
    (finishRequest f k due s0 a).tlp.sessionTrainId = a.state.tlp.sessionTrainId := by
  simp [finishRequest]
@[simp] theorem finishRequest_tlp_heldSummary (f : Frame) (k : Byte) (due : Due) (s0 : State) (a : Answer) :
    (finishRequest f k due s0 a).tlp.heldSummary = a.state.tlp.heldSummary := by
  simp [finishRequest]
@[simp] theorem finishRequest_ilp_link (f : Frame) (k : Byte) (due : Due) (s0 : State) (a : Answer) :
    (finishRequest f k due s0 a).ilp.link = a.state.ilp.link := by
  simp [finishRequest]
@[simp] theorem finishRequest_ilp_supervision (f : Frame) (k : Byte) (due : Due) (s0 : State) (a : Answer) :
    (finishRequest f k due s0 a).ilp.supervision = a.state.ilp.supervision := by
  simp [finishRequest]
@[simp] theorem finishRequest_slp_link (f : Frame) (k : Byte) (due : Due) (s0 : State) (a : Answer) :
    (finishRequest f k due s0 a).slp.link = a.state.slp.link := by
  simp [finishRequest]
@[simp] theorem finishRequest_slp_supervision (f : Frame) (k : Byte) (due : Due) (s0 : State) (a : Answer) :
    (finishRequest f k due s0 a).slp.supervision = a.state.slp.supervision := by
  simp [finishRequest]
@[simp] theorem finishRequest_slp_flags (f : Frame) (k : Byte) (due : Due) (s0 : State) (a : Answer) :
    (finishRequest f k due s0 a).slp.flags = a.state.slp.flags := by
  simp [finishRequest]
@[simp] theorem finishRequest_slp_enables (f : Frame) (k : Byte) (due : Due) (s0 : State) (a : Answer) :
    (finishRequest f k due s0 a).slp.enables = a.state.slp.enables := by
  simp [finishRequest]
theorem finishRequest_mac (f : Frame) (k : Byte) (due : Due) (s0 : State) (a : Answer) :
    (finishRequest f k due s0 a).mac = (handCopies s0 a.state).mac := by
  simp [finishRequest]
theorem finishRequest_scl (f : Frame) (k : Byte) (due : Due) (s0 : State) (a : Answer) :
    (finishRequest f k due s0 a).scl = (handCopies s0 a.state).scl := by
  simp [finishRequest]
theorem finishRequest_ssc (f : Frame) (k : Byte) (due : Due) (s0 : State) (a : Answer) :
    (finishRequest f k due s0 a).ssc = (handCopies s0 a.state).ssc := by
  simp [finishRequest]
theorem finishRequest_departureQuiet (f : Frame) (k : Byte) (due : Due) (s0 : State) (a : Answer) :
    (finishRequest f k due s0 a).departureQuiet = (handCopies s0 a.state).departureQuiet := by
  simp [finishRequest]
@[simp] theorem finishRequest_channels (f : Frame) (k : Byte) (due : Due) (s0 : State) (a : Answer) :
    (finishRequest f k due s0 a).ssc.channels = a.state.ssc.channels := by
  simp [finishRequest]
@[simp] theorem finishRequest_lastConverted (f : Frame) (k : Byte) (due : Due) (s0 : State) (a : Answer) :
    (finishRequest f k due s0 a).ssc.lastConverted = a.state.ssc.lastConverted := by
  simp [finishRequest]
@[simp] theorem finishRequest_inFlight (f : Frame) (k : Byte) (due : Due) (s0 : State) (a : Answer) :
    (finishRequest f k due s0 a).ssc.inFlight = a.state.ssc.inFlight := by
  simp [finishRequest]

/-- The REPLY is the first thing a request sends, where its owner has sent nothing (R155, R178). -/
theorem finishRequest_head (f : Frame) (k : Byte) (due : Due) (s0 : State) (a : Answer) (h : a.state.sent = []) :
    (finishRequest f k due s0 a).sent.head? =
      some (.frame f.link f.version f.seq (.reply ⟨k, a.result, a.detail, a.record⟩)) := by
  obtain ⟨l, hl⟩ := handPorts_appends due s0
    (sendReply f ⟨k, a.result, a.detail, a.record⟩ (handCopies s0 a.state))
  unfold finishRequest
  rw [hl, sendReply_sent, handCopies_sent, h]
  rfl

end Sys2Proof.Machine
end

