-- ==== Sys2Proof/Laws/Records.lean ====
section
/-! SUPPORT. What a beam transition and the entry to EMPTY leave of a reader's record, and a state entry of a door's,
whole; what one change of a door record leaves of it and of the change marks; and that the marks follow the doors
through a list of commands. -/

namespace Sys2Proof.Machine

/-! ## A reader's record, whole (R23, R24, R30) -/

theorem zeroReader_eq (e : End) (r : Reader) : zeroReader e r = emptiedReader e r := rfl

theorem captures_iff (r : Reader) :
    captures r = true ↔ r.faultState = .normal ∧ (r.lastStep = .none ∨ r.lastStep = .towards r.sense) := by
  unfold captures readerNormal lastForward
  cases r.lastStep <;> simp

theorem cancels_iff (r : Reader) :
    cancels r = true ↔ r.faultState = .normal ∧ r.lastStep ≠ .none ∧ r.lastStep ≠ .towards r.sense := by
  unfold cancels readerNormal lastForward
  cases r.lastStep <;> simp

theorem breakBeam_eq (r : Reader) : breakBeam r = beamBroken r := by
  simp only [breakBeam, beamBroken, captures_iff]

theorem clearBeam_eq (r : Reader) : clearBeam r = beamCleared r := by
  simp only [clearBeam, beamCleared, cancels_iff]

/-! ## State entries, as whole records (R67, R71, R82) -/

theorem enterClosedLocked_eq (r : DoorRecord) : enterClosedLocked r = lockedRecord r := by
  simp [enterClosedLocked, enterState, lockedRecord, heldRecord, dropsClosePending, forgetsReopens, cadenceRuns]

theorem enterEmergency_eq (r : DoorRecord) : enterEmergency r = heldRecord .emergency none r := by
  simp [enterEmergency, enterState, heldRecord, dropsClosePending, forgetsReopens, cadenceRuns]

theorem enterIsolated_eq (r : DoorRecord) : enterIsolated r = heldRecord .isolated none r := by
  simp [enterIsolated, enterState, heldRecord, dropsClosePending, forgetsReopens, cadenceRuns]

theorem enterFault_eq (cause : DoorFaultCause) (r : DoorRecord) :
    enterFault cause r = heldRecord .fault (some cause) r := by
  simp [enterFault, enterState, heldRecord, dropsClosePending, forgetsReopens, cadenceRuns]

theorem enterOpenKept_eq (r : DoorRecord) : enterOpenKept r = openedRecord r.command r := by
  simp [enterOpenKept, enterState, openedRecord, dropsClosePending, forgetsReopens, cadenceRuns]

theorem enterOpenHeld_eq (r : DoorRecord) : enterOpenHeld r = openedRecord (some .hold) r := by
  simp [enterOpenHeld, enterState, openedRecord, dropsClosePending, forgetsReopens, cadenceRuns]

theorem enterUnlocking_eq (t : TimerSettings) (r : DoorRecord) : enterUnlocking t r = unlockingRecord t r := by
  simp [enterUnlocking, withTimer, enterState, unlockingRecord, dropsClosePending, forgetsReopens, cadenceRuns]

theorem enterOpening_eq (t : TimerSettings) (r : DoorRecord) : enterOpening t r = openingRecord t r := by
  simp [enterOpening, withTimer, enterState, openingRecord, dropsClosePending, forgetsReopens, cadenceRuns]

theorem enterCloseWait_eq (t : TimerSettings) (r : DoorRecord) :
    enterCloseWait t r = closeWaitRecord t r.slowClose r.closePending r := by
  simp [enterCloseWait, withTimer, enterState, closeWaitRecord, dropsClosePending, forgetsReopens]

theorem enterClosing_eq (t : TimerSettings) (doorway : GapView) (r : DoorRecord) :
    enterClosing t doorway r =
      closingRecord t (if r.slowClose = true ∨ doorway = .notActive then .slowCloseLock else .closeLock) r := by
  simp [enterClosing, withTimer, enterState, closingRecord, dropsClosePending, forgetsReopens, cadenceRuns]

theorem enterCloseBlocked_eq (cause : BlockedCause) (r : DoorRecord) :
    enterCloseBlocked cause r = blockedRecord cause r := by
  cases cause <;>
    simp [enterCloseBlocked, enterState, blockedRecord, dropsClosePending, forgetsReopens, cadenceRuns]

theorem reverseClose_eq (t : TimerSettings) (r : DoorRecord) :
    reverseClose t r = if r.reopenCount < 3 then reversedRecord t r else blockedRecord .obstruction r := by
  unfold reverseClose
  rw [enterCloseBlocked_eq]
  simp [Config.reopenLimit, enterReopening, withTimer, enterState, reversedRecord, dropsClosePending, forgetsReopens,
    cadenceRuns]

theorem takeClose_opened (t : TimerSettings) (r : DoorRecord) (h : r.state = .opened) :
    takeClose t r = closeWaitRecord t r.slowClose true r := by
  simp [takeClose, h, enterCloseWait_eq, closeWaitRecord]

/-- A door that goes OPEN and is closed again at once stands in CLOSE_WAIT under the command it went OPEN under. -/
theorem takeClose_openedRecord (t : TimerSettings) (cmd : Option Command) (r : DoorRecord) :
    takeClose t (openedRecord cmd r) = closeWaitRecord t r.slowClose true { r with command := cmd } := by
  rw [takeClose_opened _ _ rfl]; rfl

theorem takeForceClose_eq (t : TimerSettings) (r : DoorRecord) :
    takeForceClose t r =
      closeWaitRecord t (r.slowClose || r.blockedCause == some .obstruction) r.closePending r := by
  simp [takeForceClose, enterCloseWait_eq, closeWaitRecord]

/-- Adoption, by the first row of R66 that matches, as whole records. -/
theorem adopt_eq (t : TimerSettings) (rep : Report) (r : DoorRecord) :
    adopt t rep r =
      if rep.handle = .pulled then heldRecord .emergency none r
      else if rep.isolation = .isolated then
        if rep.leaf = .closed ∧ rep.locked = true then heldRecord .isolated none r
        else heldRecord .fault (some .isolation) r
      else if rep.motorFault = true then heldRecord .fault (some .motor) r
      else if rep.leaf = .closed ∧ rep.locked = true then lockedRecord r
      else if rep.leaf = .opened then openedRecord (some .hold) r
      else if r.state = .init ∧ timerIs .opening r = true then r else adoptingRecord t r := by
  have hi : withTimer .opening t.openTimeout (enterInit r) = adoptingRecord t r := by
    simp [enterInit, withTimer, enterState, adoptingRecord, dropsClosePending, forgetsReopens, cadenceRuns]
  simp [adopt, enterEmergency_eq, enterIsolated_eq, enterFault_eq, enterClosedLocked_eq, enterOpenHeld_eq, hi,
    Report.closedLocked]

/-- How a door leaves EMERGENCY, as whole records (R74). -/
theorem leaveEmergency_eq (rep : Report) (r : DoorRecord) :
    leaveEmergency rep r =
      if rep.isolation = .isolated then
        if rep.leaf = .closed ∧ rep.locked = true then heldRecord .isolated none r
        else heldRecord .fault (some .isolation) r
      else if rep.motorFault = true then heldRecord .fault (some .motor) r
      else if rep.leaf = .closed ∧ rep.locked = true then lockedRecord r
      else openedRecord (some .hold) r := by
  simp [leaveEmergency, enterIsolated_eq, enterFault_eq, enterClosedLocked_eq, enterOpenHeld_eq, Report.closedLocked]

/-! ## One change of a door record -/

/-- A change that puts a door into OPEN leaves the berth record as it was (R51, R54). -/
theorem changeDoorCore_opened_berth (d : Door) (f : DoorRecord → DoorRecord) (s : State)
    (h : (f (doorAt s d)).state = .opened) : (changeDoorCore d f s).berth = s.berth :=
  (changeDoorCore_quiet d f s (.inr (by rw [h]; decide))).1

/-- All that a change of a door record does to that record: what it says, and where it puts the door into OPEN with a
close requested, the close command that the BSQ then hands it (R53). -/
theorem changeDoor_doorAt (d : Door) (f : DoorRecord → DoorRecord) (s : State) :
    doorAt (changeDoor d f s) d =
      if (f (doorAt s d)).state = .opened ∧ (doorAt s d).state ≠ .opened ∧ reClosed s d then
        takeClose s.geo.timers (f (doorAt s d))
      else f (doorAt s d) := by
  unfold changeDoor; dsimp only
  rw [changeDoorCore_self]
  by_cases ho : (f (doorAt s d)).state = .opened ∧ (doorAt s d).state ≠ .opened
  · have hb := changeDoorCore_opened_berth d f s ho.1
    simp only [ho.1, ho.2, ne_eq, not_false_eq_true, true_and, reCloses, hb, reClosed]
    by_cases hr : s.dlc.releaseInForce = true
    · split <;> simp [closeCommand_self, hr]
    · simp only [Bool.not_eq_true] at hr
      by_cases hc : s.berth.closeRequested = true ∧
          (s.berth.state = .creep ∨ (s.berth.state = .released ∧ s.berth.enableSet.get d = true))
      · rw [if_pos, if_pos]
        · simp [closeCommand_self, hr]
        · exact ⟨hc.1, hr, hc.2⟩
        · obtain ⟨h1, h2⟩ := hc
          rcases h2 with h2 | ⟨h2, h3⟩
          · simp [h1, h2]
          · simp [h1, h2, h3]
      · rw [if_neg, if_neg]
        · exact changeDoorCore_self d f s
        · rintro ⟨h1, _, h2⟩; exact hc ⟨h1, h2⟩
        · intro h
          simp only [Bool.and_eq_true, Bool.or_eq_true, beq_iff_eq] at h
          exact hc ⟨h.1, h.2.symm⟩
  · rw [if_neg (fun h => ho ⟨h.1, h.2.1⟩), if_neg (fun h => ho ⟨h.1, h.2.1⟩)]
    exact changeDoorCore_self d f s

theorem changeDoorCore_marks (d : Door) (f : DoorRecord → DoorRecord) (s : State) :
    (changeDoorCore d f s).dlc.marks =
      if marksChange (doorAt s d) (f (doorAt s d)) = true then s.dlc.marks.set (doorGroup d) true
      else s.dlc.marks := by
  rw [changeDoorCore_dlc]
  unfold writeDoor; dsimp only
  split <;> rfl

theorem set_set_self {n : Nat} {α : Type} (t : Tab n α) (i : Fin n) (a : α) : (t.set i a).set i a = t.set i a := by
  apply Tab.ext_get; intro j
  simp only [Tab.get_set]; split <;> rfl

/-- All that a change of a door record does to the marks: its group is marked where the change says so, a door that goes
OPEN being marked also where it is closed again at once (R84). -/
theorem changeDoor_marks (d : Door) (f : DoorRecord → DoorRecord) (s : State) :
    (changeDoor d f s).dlc.marks =
      if marksChange (doorAt s d) (f (doorAt s d)) = true then s.dlc.marks.set (doorGroup d) true
      else s.dlc.marks := by
  unfold changeDoor; dsimp only
  rw [changeDoorCore_self]
  split
  · rename_i h
    have hm : marksChange (doorAt s d) (f (doorAt s d)) = true := by
      simp only [marksChange, h.1, Bool.or_eq_true, bne_iff_ne, ne_eq]
      exact .inl (.inl h.2.1)
    unfold closeCommand
    split
    · rw [changeDoorCore_marks, if_pos hm]
    · rw [changeDoorCore_marks, changeDoorCore_marks, if_pos hm]
      split
      · exact set_set_self _ _ _
      · rfl
  · exact changeDoorCore_marks d f s

/-- The fields that set a mark, read off the records (R84). -/
theorem marksChange_iff (s t : State) (d : Door) :
    marksChange (doorAt s d) (doorAt t d) = true ↔ doorDiffers s t d := by
  simp only [marksChange, doorDiffers, Bool.or_eq_true, bne_iff_ne, ne_eq, or_assoc]
  constructor <;> rintro (h | h | h)
  all_goals first
    | exact .inl (fun e => h e.symm)
    | exact .inr (.inl (fun e => h e.symm))
    | exact .inr (.inr (fun e => h e.symm))

/-- Where one door changes at most, the marks follow when its group is marked exactly for its change. -/
theorem marksFollow_of_one (s t : State) (d : Door) (ho : ∀ e, e ≠ d → doorAt t e = doorAt s e)
    (hm : t.dlc.marks = if doorDiffers s t d then s.dlc.marks.set (doorGroup d) true else s.dlc.marks) :
    marksFollow s t := by
  intro g
  rw [hm]
  by_cases hd : doorDiffers s t d
  · rw [if_pos hd, Tab.get_set]
    by_cases hg : doorGroup d = g
    · simp only [hg, if_true, true_iff]; exact .inr ⟨d, hg, hd⟩
    · rw [if_neg hg]
      constructor
      · exact .inl
      · rintro (h | ⟨e, he, hde⟩)
        · exact h
        · by_cases hed : e = d
          · exact absurd (hed ▸ he) hg
          · simp [doorDiffers, ho e hed] at hde
  · rw [if_neg hd]
    constructor
    · exact .inl
    · rintro (h | ⟨e, he, hde⟩)
      · exact h
      · by_cases hed : e = d
        · exact absurd (hed ▸ hde) hd
        · simp [doorDiffers, ho e hed] at hde

/-! ## Marks through a list of commands -/

/-- An operation on one door that marks its group exactly where the door has changed, and touches no other door. -/
def marksOwn (op : Door → State → State) : Prop :=
  ∀ (d : Door) (s : State),
    (∀ e, e ≠ d → doorAt (op d s) e = doorAt s e) ∧
    (op d s).dlc.marks =
      if doorDiffers s (op d s) d then s.dlc.marks.set (doorGroup d) true else s.dlc.marks

/-- The marks follow a list of such operations that names no door twice (R84). -/
theorem forDoors_marksFollow (op : Door → State → State) (h : marksOwn op) (l : List Door) (hl : l.Nodup) (s : State) :
    marksFollow s (forDoors l op s) := by
  induction l generalizing s with
  | nil => intro g; simp [forDoors_nil, doorDiffers]
  | cons d l ih =>
    obtain ⟨hd, hl⟩ := List.nodup_cons.mp hl
    rw [forDoors_cons]
    have h1 : marksFollow s (op d s) := marksFollow_of_one s _ d (h d s).1 (h d s).2
    have h2 := ih hl (op d s)
    have hdd : doorAt (forDoors l op (op d s)) d = doorAt (op d s) d :=
      forDoors_other _ _ _ _ (fun e s he => (h e s).1 d (Ne.symm he)) hd
    intro g
    rw [h2 g, h1 g]
    constructor
    · rintro ((hm | ⟨e, he, hde⟩) | ⟨e, he, hde⟩)
      · exact .inl hm
      · have : e = d := Decidable.byContradiction fun hne => by
          simp [doorDiffers, (h d s).1 e hne] at hde
        subst this
        exact .inr ⟨e, he, by simpa [doorDiffers, hdd] using hde⟩
      · have hne : e ≠ d := by
          rintro rfl; simp [doorDiffers, hdd] at hde
        exact .inr ⟨e, he, by simpa [doorDiffers, (h d s).1 e hne] using hde⟩
    · rintro (hm | ⟨e, he, hde⟩)
      · exact .inl (.inl hm)
      · by_cases hne : e = d
        · subst hne
          exact .inl (.inr ⟨e, he, by simpa [doorDiffers, hdd] using hde⟩)
        · exact .inr ⟨e, he, by simpa [doorDiffers, (h d s).1 e hne] using hde⟩

/-- A change that does not put the door into OPEN, or that no close command follows back to where it came from, marks its
group exactly where the door has changed (R84). -/
theorem changeDoor_marks_own (d : Door) (f : DoorRecord → DoorRecord) (s : State)
    (h : (doorAt s d).state ≠ .closeWait ∨ (f (doorAt s d)).state ≠ .opened) :
    (changeDoor d f s).dlc.marks =
      if doorDiffers s (changeDoor d f s) d then s.dlc.marks.set (doorGroup d) true else s.dlc.marks := by
  rw [changeDoor_marks]
  have hiff : marksChange (doorAt s d) (f (doorAt s d)) = true ↔ doorDiffers s (changeDoor d f s) d := by
    rw [← marksChange_iff, changeDoor_doorAt]
    split
    · rename_i hc
      rw [takeClose_opened _ _ hc.1]
      have h1 : (doorAt s d).state ≠ .closeWait := h.resolve_right (fun h => h hc.1)
      simp [marksChange, closeWaitRecord, hc.1, hc.2.1, h1]
    · rfl
  simp only [hiff]

theorem openCommand_marksOwn : marksOwn openCommand := by
  intro d s
  refine ⟨fun e he => openCommand_other s (Ne.symm he), ?_⟩
  apply changeDoor_marks_own
  by_cases h : (doorAt s d).state = .closeWait
  · right; simp [takeOpen, h, enterReopening, withTimer, enterState]
  · exact .inl h

theorem closeCommand_marksOwn : marksOwn closeCommand := by
  intro d s
  refine ⟨fun e he => closeCommand_other s (Ne.symm he), ?_⟩
  by_cases hr : s.dlc.releaseInForce = true
  · simp [closeCommand, hr, doorDiffers]
  · have hc : closeCommand d s = changeDoorCore d (takeClose s.geo.timers) s := by simp [closeCommand, hr]
    rw [hc, changeDoorCore_marks]
    have := marksChange_iff s (changeDoorCore d (takeClose s.geo.timers) s) d
    rw [changeDoorCore_self] at this
    simp only [this]

theorem forceCloseDoor_marksOwn : marksOwn forceCloseDoor := by
  intro d s
  refine ⟨fun e he => changeDoor_other _ s (Ne.symm he), ?_⟩
  apply changeDoor_marks_own
  right
  rw [takeForceClose_eq]; simp [closeWaitRecord]

end Sys2Proof.Machine
end

