-- ==== Sys2Proof/Laws/Requests.lean ====
section
/-! SUPPORT. What a whole request and a whole event do, whatever its owner: the REPLY comes first, the link is served, a
refusal leaves everything else as it was, and an event without effect changes nothing. -/

namespace Sys2Proof.Machine

/-! ## The link of a request -/

/-- Receiving a frame serves its link and no other. -/
theorem served_receive (link : Link) (s : State) : served link s (receive link s) := by
  cases link <;> simp [served]

/-- Whether a link is served depends on the ports' link states and supervision timers only. -/
theorem served_congr {link : Link} {s s' t t' : State} (h : served link s t)
    (hs : keepsPart .links s s') (ht : keepsPart .links t t') : served link s' t' := by
  obtain ⟨⟨a1, a2⟩, ⟨b1, b2⟩, c1, c2⟩ := hs
  obtain ⟨⟨d1, d2⟩, ⟨e1, e2⟩, g1, g2⟩ := ht
  unfold served at h ⊢
  rw [a1, a2, b1, b2, c1, c2, d1, d2, e1, e2, g1, g2]
  exact h

theorem keepsPart_links_finish (due : Due) (s0 s : State) : keepsPart .links s (finish due s0 s) := by
  simp [keepsPart]

theorem keepsPart_links_finishRequest (f : Frame) (k : Byte) (due : Due) (s0 : State) (a : Answer) :
    keepsPart .links a.state (finishRequest f k due s0 a) := by
  simp [keepsPart]

/-- A request whose owner has sent nothing and left the links as receiving left them is answered with the owner's
result. -/
theorem finishRequest_answered (f : Frame) (k : Byte) (due : Due) (s : State) (a : Answer) (hs : a.state.sent = [])
    (hl : keepsPart .links (receive f.link s) a.state) :
    answered f k a.result a.detail a.record s (finishRequest f k due (fresh s) a) := by
  refine ⟨List.mem_of_head? (finishRequest_head f k due (fresh s) a hs), ?_⟩
  have h := served_congr (served_receive f.link s) (s' := s) (t' := a.state) (by simp [keepsPart]) hl
  exact served_congr h (by simp [keepsPart]) (keepsPart_links_finishRequest f k due (fresh s) a)

/-- The end of a refused request: the REPLY, the link served, and everything else as it was (R178). -/
theorem finishRequest_refused (f : Frame) (k : Byte) (due : Due) (s : State) (r : ResultCode) (d : Detail) :
    refusedAs f k r d s (finishRequest f k due (fresh s) (refuseWith r d (receive f.link (fresh s)))) := by
  refine ⟨finishRequest_answered f k due s (refuseWith r d (receive f.link (fresh s))) ?_ ?_, ?_⟩
  · simp [refuseWith]
  · cases h : f.link <;> simp [refuseWith, keepsPart]
  · have hscl : sclInputOf (receive f.link (fresh s)) = sclInputOf (fresh s) := by
      simp [sclInputOf, doorAt, channelAt]
    have hq : arrivingQuiet (receive f.link (fresh s)) = arrivingQuiet (fresh s) := by
      simp [arrivingQuiet, sessionOpen]
    have hd : doorStatesOf (receive f.link (fresh s)) = doorStatesOf (fresh s) := by
      simp [doorStatesOf, doorAt]
    intro p hp
    cases p <;>
      simp_all [keepsPart, settleKept, finishRequest_mac, finishRequest_scl, finishRequest_ssc, finishRequest_departureQuiet,
        handCopies_mac, handCopies_scl, handCopies_ssc, handCopies_departureQuiet, refuseWith]

/-! ## Requests by link, once a warm restart is not due -/

theorem trainRequest_eq {α : Type} (k : TrainKind) (f : Frame) (form : Version → List Byte → Option α)
    (owner : α → State → Answer) (s : State) (h : s.restartDue = false) :
    trainRequest k f form owner s =
      finishRequest f k.code
        ⟨k.opensSession && (trainAnswer k f form owner (receive f.link (fresh s))).result == .done, false, false⟩
        (fresh s) (trainAnswer k f form owner (receive f.link (fresh s))) := by
  simp [trainRequest, h]

theorem interlockingRequest_eq {α : Type} (code : Byte) (poll : Bool) (f : Frame) (form : List Byte → Option α)
    (owner : α → State → Answer) (s : State) (h : s.restartDue = false) :
    interlockingRequest code poll f form owner s =
      finishRequest f code
        ⟨false, poll && (interlockingAnswer f form owner (receive f.link (fresh s))).result == .done, false⟩
        (fresh s) (interlockingAnswer f form owner (receive f.link (fresh s))) := by
  simp [interlockingRequest, h]

theorem stationRequest_eq {α : Type} (code : Byte) (m : Bool) (f : Frame) (form : List Byte → Option α)
    (owner : α → State → Answer) (s : State) (h : s.restartDue = false) :
    stationRequest code m f form owner s =
      finishRequest f code Due.none (fresh s) (stationAnswer m f form owner (receive f.link (fresh s))) := by
  simp [stationRequest, h]

/-- A station request that passes the gate and the form is its owner's (R171, R177). -/
theorem stationAnswer_owner {α : Type} (m : Bool) (f : Frame) (form : List Byte → Option α)
    (owner : α → State → Answer) (s : State) (a : α) (hl : f.link = .station) (hm : m = true → s.mac.mode = .maintenance)
    (hf : form f.payload = some a) : stationAnswer m f form owner s = owner a s := by
  unfold stationAnswer
  rw [if_neg (by simp [hl]), if_neg (by intro ⟨h1, h2⟩; exact h2 (hm h1)), hf]

/-- A request discarded because a warm restart is due (R174). -/
theorem stationRequest_discarded {α : Type} (code : Byte) (m : Bool) (f : Frame) (form : List Byte → Option α)
    (owner : α → State → Answer) (s : State) (h : s.restartDue = true) :
    stationRequest code m f form owner s = fresh s := by
  simp [stationRequest, h]

/-! ## Events -/

/-- Nothing handed and nothing sent: the end of a command that changed nothing. -/
theorem finish_none_self (s : State) (h : s.summaryDue = false) : finish Due.none s s = s := by
  have h1 : followArrivingQuiet s s = s := by simp [followArrivingQuiet]
  have h2 : handMac s s = s := by simp [handMac]
  have h3 : handSsc s s = s := by simp [handSsc]
  have h4 : handScl s s = s := by simp [handScl]
  have h5 : storeTrainValues s s = s := by simp [storeTrainValues]
  have h6 : storeIlValues s s = s := by simp [storeIlValues]
  have h7 : storeStationValues s s = s := by simp [storeStationValues]
  have h8 : handTlp false s s = s := by
    unfold handTlp; simp [h5, h, trainChange]
  have h9 : handIlp false s s = s := by
    unfold handIlp; simp only [h6]; simp [ilChange]
    intro h1 _ h3; simp [h1] at h3
  have h10 : handSlp false s s = s := by
    unfold handSlp; simp only [h7]; simp [enabledFlagRaised]
    intro h1 _ h3
    rcases h3 with h3 | ⟨x, h3, h4⟩
    · simp [h1] at h3
    · simp_all
  simp only [finish, handPorts, handCopies, h1, h2, h3, h4, Due.none, h8, h9, h10]

/-- An event whose effect is none changes nothing but the model's own fields of the latest command. -/
theorem event_of_no_effect (effect : State → State) (s : State) (h : effect (fresh s) = fresh s) :
    event effect s = fresh s := by
  unfold event; dsimp only; rw [h]; exact finish_none_self _ rfl

end Sys2Proof.Machine
end

