-- ==== Sys2Proof/Laws/Scan.lean ====
section
/-! SUPPORT. What the door loop and the scanner do next, and when an expiry is due: the choice of the next position goes
round (R62, R88), and one lemma for each shared operation of polls, conversions and timers. -/

namespace Sys2Proof.Machine

/-! ## Going round -/

/-- The first of the positions that satisfy a test is the lowest of them. -/
theorem head_filter_finRange {n : Nat} {p : Fin n → Bool} {c : Fin n}
    (h : ((List.finRange n).filter p).head? = some c) : p c = true ∧ ∀ e, p e = true → c ≤ e := by
  have hs : ((List.finRange n).filter p).Pairwise (· < ·) := (List.pairwise_lt_finRange n).filter p
  have hm : ∀ e, p e = true → e ∈ (List.finRange n).filter p := fun e he => by simp [he]
  cases hl : (List.finRange n).filter p with
  | nil => simp [hl] at h
  | cons a l =>
    rw [hl] at h hs
    obtain rfl : a = c := by simpa using h
    refine ⟨?_, fun e he => ?_⟩
    · have : a ∈ (List.finRange n).filter p := by simp [hl]
      simpa using this
    · have := hm e he
      rw [hl] at this
      rcases List.mem_cons.mp this with rfl | h'
      · exact Nat.le_refl _
      · exact Nat.le_of_lt ((List.pairwise_cons.mp hs).1 e h')

/-- No position satisfies a test whose list is empty. -/
theorem none_filter_finRange {n : Nat} {p : Fin n → Bool} (h : (List.finRange n).filter p = []) (e : Fin n) :
    p e = false := by
  cases he : p e with
  | false => rfl
  | true =>
    have : e ∈ (List.finRange n).filter p := by simp [he]
    simp [h] at this

/-- The next position goes round the live ones (R62, R88). -/
theorem nextRound_goesRound {n : Nat} (live : Fin n → Bool) (last : Option (Fin n)) :
    goesRound (fun e => live e = true) last (nextRound live last) := by
  have first : ∀ l, ((List.finRange n).filter live).head? = l →
      match l with
      | none => ∀ e, ¬live e = true
      | some c => live c = true ∧ ∀ e, live e = true → c ≤ e := by
    rintro (_ | c) h
    · intro e
      simp [none_filter_finRange (List.head?_eq_none_iff.mp h) e]
    · exact head_filter_finRange h
  cases last with
  | none =>
    simp only [nextRound]
    cases h : ((List.finRange n).filter live).head? with
    | none => exact first _ h
    | some c => exact first _ h
  | some p =>
    simp only [nextRound]
    rw [List.filter_filter]
    cases hl : (List.finRange n).filter fun c => decide (p < c) && live c with
    | cons c l =>
      have hc := head_filter_finRange (c := c) (by rw [hl]; rfl)
      simp only [Bool.and_eq_true, decide_eq_true_eq] at hc
      exact ⟨hc.1.2, .inl ⟨hc.1.1, fun e he hp => hc.2 e ⟨hp, he⟩⟩⟩
    | nil =>
      have hn := none_filter_finRange hl
      have below : ∀ e, live e = true → e ≤ p := fun e he => by
        have := hn e
        simp [he] at this
        exact this
      cases h : ((List.finRange n).filter live).head? with
      | none => exact first _ h
      | some c => exact ⟨(first _ h).1, .inr ⟨below, (first _ h).2⟩⟩

/-- The next channel to convert goes round the channels not in OFF (R88). -/
theorem nextLive_goesRound (t : Tab 80 ChannelRecord) (last : Option Channel) :
    goesRound (fun c => (t.get c).state ≠ .off) last (nextLive t last) := by
  simpa [nextLive] using nextRound_goesRound (fun c => (t.get c).state != .off) last

/-- The next door to poll goes round the positions not ABSENT (R62). -/
theorem nextToPoll_goesRound (s : State) :
    goesRound (fun d => (doorAt s d).state ≠ .absent) s.dlc.lastPolled (nextToPoll s) := by
  simpa [nextToPoll] using nextRound_goesRound (fun d => (doorAt s d).state != .absent) s.dlc.lastPolled

/-! ## The scanner -/

@[simp] theorem beginConversion_inFlight (s : State) :
    (beginConversion s).ssc.inFlight = nextLive s.ssc.channels s.ssc.lastConverted := rfl
@[simp] theorem beginConversion_channels (s : State) : (beginConversion s).ssc.channels = s.ssc.channels := rfl
@[simp] theorem beginConversion_lastConverted (s : State) :
    (beginConversion s).ssc.lastConverted = s.ssc.lastConverted := rfl
@[simp] theorem beginConversion_dlc (s : State) : (beginConversion s).dlc = s.dlc := rfl
@[simp] theorem beginConversion_berth (s : State) : (beginConversion s).berth = s.berth := rfl
@[simp] theorem beginConversion_rlm (s : State) : (beginConversion s).rlm = s.rlm := rfl
@[simp] theorem beginConversion_scl (s : State) : (beginConversion s).scl = s.scl := rfl
@[simp] theorem beginConversion_mac (s : State) : (beginConversion s).mac = s.mac := rfl
@[simp] theorem beginConversion_tlp (s : State) : (beginConversion s).tlp = s.tlp := rfl
@[simp] theorem beginConversion_ilp (s : State) : (beginConversion s).ilp = s.ilp := rfl
@[simp] theorem beginConversion_slp (s : State) : (beginConversion s).slp = s.slp := rfl
@[simp] theorem beginConversion_sent (s : State) : (beginConversion s).sent = s.sent := rfl
@[simp] theorem beginConversion_pending (s : State) : (beginConversion s).pending = s.pending := rfl

/-- All that waking the scanner can do: begin a conversion where none was in flight (R88). -/
theorem wakeScanner_cases (s : State) :
    (s.ssc.inFlight = none ∧ wakeScanner s = beginConversion s) ∨
    (∃ c, s.ssc.inFlight = some c ∧ wakeScanner s = s) := by
  unfold wakeScanner
  cases s.ssc.inFlight with
  | none => exact .inl ⟨rfl, rfl⟩
  | some c => exact .inr ⟨c, rfl, rfl⟩

/-- A conversion that is not the one in flight does not end (R88). -/
theorem takeConversion_other {c : Channel} {s : State} (x : Sample) (h : s.ssc.inFlight ≠ some c) :
    takeConversion c x s = s := by
  unfold takeConversion
  rw [if_neg h]

/-! ## Polls -/

/-- A poll is under way exactly for the door polled last while its reply is awaited (R62). -/
theorem pollUnderWay_eq_some (s : State) (d : Door) :
    pollUnderWay s = some d ↔ s.dlc.awaitingReply = true ∧ s.dlc.lastPolled = some d := by
  unfold pollUnderWay
  split <;> simp_all

/-- All that the end of a poll can do: nothing where it is not the poll under way (R62). -/
theorem endOfPoll_cases (d : Door) (f : State → State) (s : State) :
    (pollUnderWay s = some d ∧ endOfPoll d f s = f (endPoll s)) ∨ (pollUnderWay s ≠ some d ∧ endOfPoll d f s = s) := by
  unfold endOfPoll
  split
  · exact .inl ⟨‹_›, rfl⟩
  · exact .inr ⟨‹_›, rfl⟩

/-! ## Timers -/

/-- A door's timer is due exactly when it is the timer running and nothing remains. -/
theorem timerDue_iff (kind : StateTimerKind) (r : DoorRecord) :
    timerDue kind r = true ↔ r.stateTimer = some ⟨kind, 0⟩ := by
  unfold timerDue
  split
  · next tm h =>
    obtain ⟨k, n⟩ := tm
    simp [h]
  · next h => simp [h]

/-- A timer that is due is running. -/
theorem timerIs_of_timerDue {kind : StateTimerKind} {r : DoorRecord} (h : timerDue kind r = true) :
    timerIs kind r = true := by
  simp [timerIs, (timerDue_iff kind r).mp h]

/-- All that a door's expiry can do: nothing where its timer is not due (R67). -/
theorem expireDoor_cases (kind : StateTimerKind) (d : Door) (f : DoorRecord → DoorRecord) (s : State) :
    (timerDue kind (doorAt s d) = true ∧ expireDoor kind d f s = changeDoor d f s) ∨
    (timerDue kind (doorAt s d) = false ∧ expireDoor kind d f s = s) := by
  unfold expireDoor
  cases h : timerDue kind (doorAt s d) <;> simp

/-! ## The queue at a start -/

/-- A start discards exactly the frames that wait (R174). -/
theorem mem_withoutFrames (c : Instr) (l : List Instr) : c ∈ withoutFrames l ↔ c ∈ l ∧ isLinkFrame c = false := by
  simp [withoutFrames]

@[simp] theorem startBlocks_pending (g : Geo) (doors : Tab 40 DoorRecord) (rlm : Rlm) (mode : PlatformMode)
    (enables : Tab 10 Bool) (l : Levels) (s : State) :
    (startBlocks g doors rlm mode enables l s).pending = withoutFrames s.pending := rfl

/-- Counting a restart that had begun touches the count alone (R174). -/
theorem countBegunRestart_eq (s : State) :
    countBegunRestart s =
      { s with rlm := { s.rlm with
        warmCount := if s.restartDue then countRestart s.rlm.warmCount else s.rlm.warmCount } } := by
  unfold countBegunRestart
  split <;> rfl

end Sys2Proof.Machine
end

