-- ==== Sys2Proof/Laws/Settle.lean ====
section
/-! SUPPORT. When the stop settle time expires: the timer has run out, or a settle check is owed after a step taken
first. -/

namespace Sys2Proof.Machine

/-- A settle check stands exactly where the reader that owes it is the measuring reader, NORMAL, in ARRIVING or
CREEP (R21). -/
theorem checkStands_iff (s : State) :
    checkStands s = true ↔
      (s.berth.state = .arriving ∨ s.berth.state = .creep) ∧
        ∃ h : End, s.checkOwed = some h ∧ s.berth.heading = some h ∧ (readerAt s h).faultState = .normal := by
  cases h : s.checkOwed <;> simp [checkStands, h, measuring, readerNormal, and_assoc]

/-- The expiry of the stop settle time is due exactly where it has no time left or a settle check is owed (R21, R37,
R56). -/
theorem due_settleTimer (s : State) : due (settleTimer s) = true ↔ settleExpires s := by
  unfold settleTimer settleExpires
  rw [← checkStands_iff]
  split <;> simp_all [due_iff]

/-- An expiry that is not due changes nothing (assumption 8). -/
theorem takeSettleExpiry_of_not_due (s : State) (h : ¬settleExpires s) : takeSettleExpiry s = s := by
  rw [← due_settleTimer, Bool.not_eq_true] at h
  simp [takeSettleExpiry, h]

/-- A step that restarts the stop settle time leaves the check owed at its reader exactly where that is the measuring
reader and the expiry was due (R21). -/
theorem restartSettle_owes (e h : End) (s : State) :
    (restartSettle e s).checkOwed = some h ↔ h = e ∧ s.berth.heading = some e ∧ settleExpires s := by
  rw [restartSettle_checkOwed, ← due_settleTimer]
  simp only [measuring, Bool.and_eq_true, beq_iff_eq]
  split <;> rename_i hc
  · simp [hc, eq_comm]
  · simp only [reduceCtorEq, false_iff, not_and]
    exact fun _ hh hd => hc ⟨hh, hd⟩

end Sys2Proof.Machine
end

