-- ==== Sys2Proof/Tests/Slice0.lean ====
section
/-! SUPPORT. Tests: ill-formed commands, received bytes, the worked examples of the manual one step at a time, and for
every statement with hypotheses a witness that meets them. Expected values are the manual's own. -/

namespace Sys2Proof.Tests

open Sys2Proof Sys2Proof.Machine

set_option Elab.async false

/-! ## Small states -/

/-- A version 2 frame of sequence 7 on a link. -/
def frameOn (link : Link) (payload : List Byte) : Frame := ⟨link, .v2, 7, payload⟩

/-- The state after a command, tested. -/
def after (c : Instr) (s : State) (p : State → Bool) : Bool :=
  match exec c s with
  | .next t => p t
  | _ => false

/-- The REPLY that a command sent first. -/
def firstReply (t : State) : Option Reply :=
  match t.sent with
  | .frame _ _ _ (.reply r) :: _ => some r
  | _ => none

/-- Slot 7 of the worked examples (01): two cars, six doors, step length 10 mm, tolerance 200 mm, partial permitted. -/
def slot7 : Formation :=
  ⟨true, 410, 2, 100, 200, true, [⟨3200, 1⟩, ⟨8950, 1⟩, ⟨14700, 1⟩, ⟨22400, 2⟩, ⟨28150, 2⟩, ⟨33900, 2⟩]⟩

/-- Doors 35 to 40 of the worked examples (01); the other positions are not fitted here. -/
def exampleDoors : Tab 40 DoorGeometry :=
  Tab.ofFn fun d =>
    match d.val with
    | 34 => ⟨true, 144500, 2000⟩
    | 35 => ⟨true, 150300, 2000⟩
    | 36 => ⟨true, 155900, 2000⟩
    | 37 => ⟨true, 163650, 2000⟩
    | 38 => ⟨true, 169300, 1800⟩
    | 39 => ⟨true, 175100, 2000⟩
    | _ => DoorGeometry.factory

/-- The platform of the worked examples. -/
def exampleGeo : Geo :=
  { Geo.factory with
    doors := exampleDoors
    berth := { BerthConstants.factory with beamBX := 178000, stopMarkBX := 178300 }
    sensing := Tab.ofFn fun c => if c.val = 35 ∨ c.val = 75 then ⟨true, 40, 3, 3⟩ else SensingEntry.factory
    formations := (Tab.fill 24 Formation.factory).set 6 slot7 }

/-- A small platform: door 1 alone is fitted, in a given state, the list empty, the mode AUTOMATIC. -/
def oneDoor (st : DoorState) : State :=
  let geo := { Geo.factory with doors := (Tab.fill 40 DoorGeometry.factory).set 0 ⟨true, 20000, 2000⟩ }
  { State.reset with
    geo := geo
    store := geo
    dlc := { State.reset.dlc with
      doors := (Tab.fill 40 (DoorRecord.cold false)).set 0 { DoorRecord.cold true with state := st, command := some .hold } }
    rlm := { State.reset.rlm with list := [] }
    mac := { State.reset.mac with mode := .automatic } }

/-- The small platform with train 4711 in session at a berth state, heading B, aligned, paired with door 1 and
authorised; in RELEASED the enable set holds door 1. -/
def berthed (b : BerthState) (st : DoorState) : State :=
  let s := oneDoor st
  { s with
    berth := { s.berth with
      state := b, trainId := some 4711, protocolVersion := some .v2, carCount := some 2, heading := some .b,
      outcome := some .aligned, tEff := some 100, worstError := some 0, adviceError := some 0,
      pairing := [⟨1, some 0, some 0, true⟩], authorisation := some 4711, stopCount := some 0,
      enableSet := if b = .released then DoorSet.empty.insert 0 else DoorSet.empty }
    readerA := { s.readerA with sense := .b }
    tlp := { s.tlp with session := .opened, sessionVersion := some .v2, sessionTrainId := some 4711 } }

/-- The poll of door 1 is under way (R62). -/
def polled (s : State) : State := { s with dlc := { s.dlc with lastPolled := some 0, awaitingReply := true } }

/-- The conversion of a channel is in flight (R88). -/
def converting (c : Channel) (s : State) : State := { s with ssc := { s.ssc with inFlight := some c } }

/-! ## Ill-formed commands are refused -/

theorem test_wrong_link_is_ill_formed : (Instr.announce (frameOn .station [])).wellFormed = false := by decide
theorem test_long_payload_is_ill_formed :
    (Instr.statusPoll (frameOn .interlocking (List.replicate 241 0))).wellFormed = false := by decide +kernel
theorem test_assigned_kind_is_not_unassigned :
    (Instr.unassignedKindFrame (frameOn .train []) 0x13).wellFormed = false := by decide +kernel
theorem test_long_unassigned_frame_is_ill_formed :
    (Instr.unassignedKindFrame (frameOn .train (List.replicate 241 0)) 0x77).wellFormed = false := by decide +kernel
theorem test_valid_frame_is_not_invalid :
    (Instr.invalidFrame .interlocking (frameBytes .v2 0x21 0 [])).wellFormed = false := by decide +kernel

/-! ## Received bytes (chapter 11) -/

/-- The check value of the polynomial and start value of R176 over the nine digits 1 to 9. -/
theorem test_crc : crc [0x31, 0x32, 0x33, 0x34, 0x35, 0x36, 0x37, 0x38, 0x39] = 0x29B1#16 := by decide +kernel

/-- No row of the opcode table has bits. -/
theorem test_no_word_spells_a_command (nbits w : Nat) : decodeTableWord nbits w = none := rfl

/-- A version 2 ANNOUNCE of train 4711, fleet code 410, two cars, heading B, written out from 11.1 and 11.2. -/
theorem test_announce_bytes :
    commandOfBytes .train
        ([0x02, 0x10, 0x07, 0x06, 0x12, 0x67, 0x01, 0x9A, 0x02, 0x02] ++
          crcBytes [0x02, 0x10, 0x07, 0x06, 0x12, 0x67, 0x01, 0x9A, 0x02, 0x02]) =
      .announce ⟨.train, .v2, 0x07, [0x12, 0x67, 0x01, 0x9A, 0x02, 0x02]⟩ ∧
    formAnnounce .v2 [0x12, 0x67, 0x01, 0x9A, 0x02, 0x02] = some ⟨4711, .v2, .fleet 410, 2, .b⟩ := by decide +kernel

/-- A TIME_SET of 86400 s, and a BERTH_REVOKE whose check bytes are spoilt. -/
theorem test_time_set_and_spoilt_bytes :
    commandOfBytes .station
        ([0x02, 0x3E, 0xFF, 0x04, 0x00, 0x01, 0x51, 0x80] ++
          crcBytes [0x02, 0x3E, 0xFF, 0x04, 0x00, 0x01, 0x51, 0x80]) =
      .timeSet ⟨.station, .v2, 0xFF, [0x00, 0x01, 0x51, 0x80]⟩ ∧
    formTime [0x00, 0x01, 0x51, 0x80] = some 86400 ∧
    commandOfBytes .interlocking ([0x02, 0x21, 0x00, 0x00] ++ (crcBytes [0x02, 0x21, 0x00, 0x00]).map (~~~ ·)) =
      .invalidFrame .interlocking ([0x02, 0x21, 0x00, 0x00] ++ (crcBytes [0x02, 0x21, 0x00, 0x00]).map (~~~ ·)) := by
  decide +kernel

/-- The payloads of 11.2 that carry signed, listed and flagged fields: o_r −5000, two cars, flags 0 and 9. -/
theorem test_payload_forms :
    formStopReport .v2 [1, 0, 0xEC, 0x78] = some ⟨true, false, -5000⟩ ∧ formOpenReq .v2 [2, 1, 8] = some [1, 8] ∧
    formOpenReq .v2 [1, 9] = none ∧ formTrainEmergency .v1 [] = some 0 ∧ formMode [4] = some .fire ∧
    (formFlagMask [0x01, 0x02]).map (fun t => (t.get 0, t.get 1, t.get 9)) = some (true, false, true) ∧
    formFlagMask [0, 4] = none := by decide +kernel

/-- R156, R158, R159: train ids 0, 1 and 65535, formation numbers 0, 15 and 16, fleet codes 0 and 65535, car counts 0, 8
and 9, headings 0 and 3; car lists of 8 and 9; emergency cars 8 and 9. -/
theorem test_payload_boundaries :
    formAnnounce .v1 [0xFF, 0xFF, 15, 8, 1] = some ⟨65535, .v1, .number 15, 8, .a⟩ ∧
    (∀ p ∈ [[0, 0, 15, 8, 1], [0, 1, 0, 8, 1], [0, 1, 16, 8, 1], [0, 1, 15, 9, 1], [0, 1, 15, 0, 1], [0, 1, 15, 8, 0],
      [0, 1, 15, 8, 3], [0, 1, 0, 15, 8, 1]], formAnnounce .v1 p = none) ∧
    formAnnounce .v2 [0, 1, 0xFF, 0xFF, 1, 2] = some ⟨1, .v2, .fleet 65535, 1, .b⟩ ∧
    (∀ p ∈ [[0, 0, 0, 1, 1, 2], [0, 1, 0, 0, 1, 2], [0, 1, 0, 1, 9, 2], [0, 1, 15, 8, 1]], formAnnounce .v2 p = none) ∧
    formOpenReq .v2 [8, 1, 2, 3, 4, 5, 6, 7, 8] = some [1, 2, 3, 4, 5, 6, 7, 8] ∧
    formOpenReq .v2 [9, 1, 2, 3, 4, 5, 6, 7, 8, 1] = none ∧ formOpenReq .v2 [1, 0] = none ∧
    formOpenReq .v2 [] = none ∧ formOpenReq .v1 [0] = none ∧
    formTrainEmergency .v2 [8] = some 8 ∧ formTrainEmergency .v2 [9] = none ∧ formTrainEmergency .v1 [0] = none ∧
    formPresence .v1 [2, 0] = none ∧ formStopReport .v2 [1, 0, 0] = none := by decide +kernel

/-- R173, R177: the keys are coded on 1 and off 2, and an absent test record is three bytes of 0. -/
theorem test_station_status_bytes :
    let v := { stationValuesOf State.reset with
      maintenanceKey := true, restoreKey := false, lastRefusal := some ⟨.localOpen, .refusedMode, 1⟩ }
    let p := stationStatusBytes (Tab.fill 10 false) (Tab.fill 10 true) v
    p.length = 33 ∧ (p.drop 13).take 5 = [1, 2, 0, 0, 0] ∧ (p.drop 18).take 6 = [1, 2, 0, 0, 0, 1] ∧
      p.take 4 = [0, 0, 0xFF, 3] := by decide +kernel

/-! ## Worked examples -/

/-- 03: step length 95 and 37 steps give 352 mm, and −37 steps −352 mm. -/
theorem test_rounding : roundTenth (37 * 95) = 352 ∧ roundTenth (-37 * 95) = -352 := by decide

/-- PRB after the arrival of chapter 2, and the berth of chapter 3 with its report of o_r = +40. -/
def arrivedReader : Reader :=
  { Reader.reset .b with count := 137, capture := 100, captureValid := true, lastStep := .towards .b, beam := .broken }

def arrivedBerth : BerthRecord :=
  { BerthRecord.atEmpty with
    state := .stopped, trainId := some 4711, protocolVersion := some .v2, carCount := some 2,
    formationSlot := some 6, heading := some .b, trainReportedFrontX := some 178340,
    trainMotion := some .standing, stopCount := some 137 }

/-- 03, the heading B stop: front 178,370, ALIGNED, worst error +120, advice error +28, doors 40 to 35. -/
theorem test_aligned_stop :
    let b := align exampleGeo .b arrivedReader arrivedBerth
    b.measuredFrontX = some 178370 ∧ b.positionSource = .reader ∧ b.tEff = some 200 ∧
      b.outcome = some .aligned ∧ b.worstError = some 120 ∧ b.adviceError = some 28 ∧
      b.pairing.map (·.error) = [some 70, some 120, some 20, some 70, some (-80), some (-30)] ∧
      pairedDoors b = [39, 38, 37, 36, 35, 34] := by decide +kernel

/-- 03, its degraded form: the train report is the source, T_eff 100, train door 5 not paired, advice error −1. -/
theorem test_degraded_stop :
    let b := align exampleGeo .b { arrivedReader with faultState := .fault } { arrivedBerth with stopCount := none }
    b.positionSource = .trainReport ∧ b.tEff = some 100 ∧ b.outcome = some .misaligned ∧
      b.worstError = some 90 ∧ b.adviceError = some (-1) ∧
      b.pairing.map (·.paired) = [true, true, true, true, false, true] := by decide +kernel

/-- 03: o_r = +400 makes the sources differ by 330 mm, and the outcome UNVERIFIED with nothing paired. -/
theorem test_unverified_stop :
    let b := align exampleGeo .b arrivedReader { arrivedBerth with trainReportedFrontX := some 178700 }
    b.outcome = some .unverified ∧ b.pairing = [] := by decide +kernel

/-- 05, step 8: the sixteenth counted sample completes learning with baseline 9,798. -/
theorem test_learning_completes :
    let r := takeSample ⟨true, 40, 3, 3⟩ true 612
      { ChannelRecord.start true with state := .learning, learnCount := 15, learnSum := 9186 }
    r.state = .active ∧ r.baseline = 9798 ∧ r.learnSum = 0 ∧ r.learnCount = 0 := by decide +kernel

/-- 05: a sample of 640 moves the baseline to 9,804; one of 560 is a candidate; the third in a row sets occupied. -/
theorem test_person_in_the_gap :
    let r := { ChannelRecord.start true with state := .active, baseline := 9798 }
    let r1 := takeSample ⟨true, 40, 3, 3⟩ true 640 r
    let r2 := takeSample ⟨true, 40, 3, 3⟩ false 560 r1
    let r4 := takeSample ⟨true, 40, 3, 3⟩ false 548 (takeSample ⟨true, 40, 3, 3⟩ false 555 r2)
    r1.baseline = 9804 ∧ r2.consecutive = 1 ∧ r2.occupied = false ∧ r2.baseline = 9804 ∧
      r4.occupied = true ∧ r4.consecutive = 0 := by decide +kernel

/-- 06, the full list, step 3: with numbers 1 to 14 and 16 removed, re-arming makes PER number 1 and door 9 number 2. -/
theorem test_full_list_rearms :
    let l : List ReleaseRecord := [⟨15, .handle 29, none, .active, 0, 0, 1⟩]
    (triggered 5 none (.handle 8) (triggered 5 none .per l)).map (fun r => (r.number, r.source)) =
      [(15, .handle 29), (1, .per), (2, .handle 8)] := by decide +kernel

/-! ## Single commands -/

/-- 02, step 5: beam B CLEAR to BROKEN with last step forward captures the count 100. -/
theorem test_capture :
    after (.beamBreak .b)
      { berthed .arriving .closedLocked with
        readerB := { Reader.reset .b with count := 100, lastStep := .towards .b } }
      (fun t => t.readerB.capture == 100 && t.readerB.captureValid && t.readerB.beam == .broken) = true := by
  decide +kernel

/-- 02, backing off the beam, step 2: the first backward step from 160 gives 159 and sets direction change. -/
theorem test_first_backward_step :
    after (.lineTransition .b 3)
      { berthed .arriving .closedLocked with
        readerB := { Reader.reset .b with count := 160, lastStep := .towards .b } }
      (fun t => t.readerB.count == 159 && t.readerB.directionChange && t.readerB.lastStep == .towards .a) = true := by
  decide +kernel

/-- 02, step 4 of the same example: the beam CLEAR with last step backward cancels the capture. -/
theorem test_cancellation :
    after (.beamClear .b)
      { berthed .arriving .closedLocked with
        readerB := { Reader.reset .b with count := 99, lastStep := .towards .a, beam := .broken, captureValid := true } }
      (fun t => !t.readerB.captureValid && t.readerB.count == 99) = true := by decide +kernel

/-- R20: a forward step at 32,767 is refused by saturation; with a capture the reader is then in FAULT. -/
theorem test_saturation :
    after (.lineTransition .a 1)
      { oneDoor .closedLocked with
        readerA := { Reader.reset .a with count := 32767, sense := .b, captureValid := true } }
      (fun t => t.readerA.count == 32767 && t.readerA.saturated && t.readerA.faultCause == some .saturated) = true := by
  decide +kernel

/-- R27: the fourth illegal transition puts a NORMAL reader into FAULT with cause ILLEGAL. -/
theorem test_fourth_illegal :
    after (.lineTransition .a 2)
      { oneDoor .closedLocked with readerA := { Reader.reset .a with illegalCount := 3 } }
      (fun t => t.readerA.faultCause == some .illegal && t.slp.flags.get 0) = true := by decide +kernel

/-- R33: a taken ANNOUNCE at an EMPTY berth makes it ARRIVING with its heading, and both senses follow. -/
theorem test_announce :
    after (.announce (frameOn .train [0x12, 0x67, 0x01, 0x9A, 0x02, 0x01])) (oneDoor .closedLocked)
      (fun t => t.berth.state == .arriving && t.berth.heading == some .a && t.readerB.sense == .a) = true := by
  decide +kernel

/-- R49: without an authorisation a release request is refused REFUSED_ID. -/
theorem test_release_without_authorisation :
    after (.releaseReq (frameOn .train []))
      (let s := berthed .stopped .closedLocked
       { s with berth := { s.berth with authorisation := none } })
      (fun t => (firstReply t).map (·.result) == some .refusedId && t.berth.state == .stopped) = true := by
  decide +kernel

/-- R50, R51: a cut-out door takes no place in the enable set. -/
theorem test_release_skips_cut_out :
    after (.releaseReq (frameOn .train []))
      (let s := berthed .stopped .closedLocked
       { s with dlc := { s.dlc with doors := s.dlc.doors.set 0 { doorAt s 0 with cutOut := true } } })
      (fun t => t.berth.state == .released && !t.berth.enableSet.get 0 && !t.berth.gapWatch.get 0) = true := by
  decide +kernel

/-- R54: a close request with every enable-set door closed gives DISPATCHING at once. -/
theorem test_close_gives_dispatching :
    after (.closeReq (frameOn .train [])) (berthed .released .closedLocked)
      (fun t => t.berth.state == .dispatching && !t.berth.enableSet.get 0) = true := by decide +kernel

/-- R54: movement in DISPATCHING with secure asserted gives DEPARTING; R134: the permit is withdrawn. -/
theorem test_departure :
    after (.beamBreak .b)
      (let s := berthed .dispatching .closedLocked
       { s with scl := { input := sclInputOf s, causes := causesOf (sclInputOf s), confirm := none, secure := true, permit := true } })
      (fun t => t.berth.state == .departing && t.scl.secure && !t.scl.permit) = true := by decide +kernel

/-- R71: the obstruction that finds the reopen count at 3 blocks the close; the one before sets slow close. -/
theorem test_obstructions :
    let rep : Report := ⟨.moving, false, true, .normal, .normal, false, false⟩
    let at_ (n : Nat) : State :=
      let s := polled (berthed .released .closing)
      { s with dlc := { s.dlc with doors := s.dlc.doors.set 0 { doorAt s 0 with reopenCount := n } } }
    after (.pollReply 0 rep) (at_ 3)
        (fun t => (doorAt t 0).state == .closeBlocked && (doorAt t 0).blockedCause == some .obstruction) = true ∧
      after (.pollReply 0 rep) (at_ 2)
        (fun t => (doorAt t 0).state == .reopening && (doorAt t 0).slowClose && (doorAt t 0).reopenCount == 3) = true := by
  decide +kernel

/-- R73: a pulled handle makes the door EMERGENCY under HOLD and its record ACTIVE. -/
theorem test_handle :
    after (.pollReply 0 ⟨.closed, true, false, .pulled, .normal, false, false⟩) (polled (oneDoor .closedLocked))
      (fun t => (doorAt t 0).state == .emergency && (doorAt t 0).command == some .hold &&
        t.rlm.list == [⟨1, .handle 0, none, .active, 0, 0, 1⟩]) = true := by decide +kernel

/-- R64, R76: the third miss in a row faults the door with cause COMMS. -/
theorem test_third_miss :
    after (.pollMiss 0)
      (let s := polled (oneDoor .closedLocked)
       { s with dlc := { s.dlc with doors := s.dlc.doors.set 0 { doorAt s 0 with missCount := 2 } } })
      (fun t => (doorAt t 0).state == .fault && (doorAt t 0).faultCause == some .comms) = true := by decide +kernel

/-- R111: the FIRE line opens the closed doors, puts the mode to FIRE and drops secure. -/
theorem test_fire :
    after .fireLineAssert (oneDoor .closedLocked)
      (fun t => (doorAt t 0).state == .unlocking && t.mac.mode == .fire && !t.scl.secure &&
        t.rlm.list.map (·.source) == [.fire]) = true := by decide +kernel

/-- R69: while a PER record is ACTIVE a close request is refused REFUSED_STATE. -/
theorem test_close_during_per :
    after (.closeReq (frameOn .train []))
      (let s := berthed .released .opened
       { s with rlm := { s.rlm with list := [⟨1, .per, none, .active, 0, 0, 1⟩] }, dlc := { s.dlc with releaseInForce := true } })
      (fun t => (firstReply t).map (·.result) == some .refusedState && (doorAt t 0).state == .opened) = true := by
  decide +kernel

/-- R6: a TIMERS write names its first failing setting; an unlock timeout of 0.19 s lies below its range. -/
theorem test_config_write_names_field :
    after (.configWrite (frameOn .station [3, 1, 0x01, 0, 0x00, 0x13]))
      (let s := oneDoor .closedLocked
       { s with mac := { s.mac with mode := .maintenance } })
      (fun t => (firstReply t).map (fun r => (r.result, r.detail)) == some (.refusedRange, .field 1) && t.store == t.geo) =
      true := by decide +kernel

/-- R140: MODE_SET to FIRE is refused REFUSED_RANGE; to MAINTENANCE without the key REFUSED_KEY. -/
theorem test_mode_set :
    after (.modeSet (frameOn .station [4])) (oneDoor .closedLocked)
        (fun t => (firstReply t).map (·.result) == some .refusedRange) = true ∧
      after (.modeSet (frameOn .station [3])) (oneDoor .closedLocked)
        (fun t => (firstReply t).map (·.result) == some .refusedKey) = true := by decide +kernel

/-- R132: with no cause the confirm timer's end asserts secure, and the permit in DISPATCHING. -/
theorem test_secure :
    after .secureConfirmExpiry
      (let s := berthed .dispatching .closedLocked
       { s with scl := { input := sclInputOf s, causes := causesOf (sclInputOf s), confirm := some 0, secure := false, permit := false } })
      (fun t => t.scl.secure && t.scl.permit) = true := by decide +kernel

/-- R166: the loss of the interlocking link clears the authorisation and sets its flag. -/
theorem test_interlocking_lost :
    after .ilLinkSupervisionExpiry
      (let s := berthed .stopped .closedLocked
       { s with ilp := { s.ilp with supervision := some 0 } })
      (fun t => t.ilp.link == .lost && t.berth.authorisation == none && t.slp.flags.get 3) = true := by decide +kernel

/-- R125: after a cold start with the PER line asserted the list holds POWER_ON, CLEARED, and PER, ACTIVE. -/
theorem test_cold_start_with_per :
    after (.coldStart { presentLevels State.reset with perLine := true }) (oneDoor .opened)
      (fun t => t.rlm.list.map (fun r => (r.number, r.source, r.state)) ==
        [(1, .powerOn, .cleared), (2, .per, .active)] && (doorAt t 0).state == .init && t.mac.mode == .localMode) =
      true := by decide +kernel

/-- R62, R63, R83: in CLOSE_WAIT under HOLD a poll has no lamp bit; under another command it has; and while a poll is
under way none is sent. -/
theorem test_lamp_and_poll_under_way :
    let warned (cmd : Command) : State :=
      let s := oneDoor .closeWait
      { s with dlc := { s.dlc with doors := s.dlc.doors.set 0 { doorAt s 0 with command := some cmd, warningPhase := .on } } }
    after .pollSend (warned .hold) (fun t => t.sent == [.poll 0 (some .hold) false]) = true ∧
      after .pollSend (warned .reopen) (fun t => t.sent == [.poll 0 (some .reopen) true] && t.dlc.awaitingReply) = true ∧
      after .pollSend (polled (warned .reopen)) (fun t => t.sent == []) = true := by decide +kernel

/-- R88: with channels 3 and 80 in scan, the end of channel 80's conversion begins channel 3's; no other one ends. -/
theorem test_scan_goes_round :
    let s := oneDoor .closedLocked
    let s := { s with ssc := { s.ssc with
      channels := (s.ssc.channels.set 2 (ChannelRecord.start true)).set 79 (ChannelRecord.start true) } }
    after (.conversionEnd 79 500) (converting 79 s)
        (fun t => t.ssc.inFlight == some 2 && (channelAt t 79).lastSample == some 500) = true ∧
      after (.conversionEnd 2 500) (converting 79 s)
        (fun t => t.ssc.inFlight == some 79 && (channelAt t 2).lastSample == none) = true := by decide +kernel

/-- R164, R175: a supervision that a frame has started anew has time left, and its expiry does nothing. -/
theorem test_restarted_timer_does_not_expire :
    after .trainLinkSupervisionExpiry
        (let s := berthed .stopped .closedLocked
         { s with tlp := { s.tlp with supervision := some 100 } })
        (fun t => t.tlp.session == .opened && t.tlp.link == .up && !t.berth.linkLost) = true ∧
      after .trainLinkSupervisionExpiry
        (let s := berthed .stopped .closedLocked
         { s with tlp := { s.tlp with supervision := some 0 } })
        (fun t => t.tlp.session == .none && t.tlp.link == .lost && t.berth.linkLost) = true := by decide +kernel

/-- R174: a dip that cuts off a restart begun by RESTART counts once more; the frames that wait are discarded. -/
theorem test_dip_during_restart :
    let s := { oneDoor .closedLocked with
      restartDue := true, pending := [.beamBreak .a, .statusPoll (frameOn .interlocking []), .deviceTimeTick] }
    after (.supplyDip (presentLevels s)) s
        (fun t => t.rlm.warmCount == 2 && t.rlm.lastCause == .supplyDip && t.pending == [.beamBreak .a, .deviceTimeTick]) =
      true ∧
      after (.warmRestart (presentLevels s)) s (fun t => t.rlm.warmCount == 1) = true := by decide +kernel

/-- R11: a write with an empty field set is taken (assumption 26); a field that TIMERS does not have names no detail
(assumption 13). -/
theorem test_config_write_field_sets :
    let s := oneDoor .closedLocked
    let s := { s with mac := { s.mac with mode := .maintenance } }
    after (.configWrite (frameOn .station [3, 1, 0, 0])) s (fun t => (firstReply t).map (·.result) == some .done) = true ∧
      after (.configWrite (frameOn .station [3, 1, 0, 4])) s
        (fun t => (firstReply t).map (fun r => (r.result, r.detail)) == some (.refusedRange, .none)) = true := by
  decide +kernel

/-! ## Witnesses: hypotheses of the statements met by concrete states, each clause by one of its own -/

/-- One part of a state changed. -/
def onBerth (f : BerthRecord → BerthRecord) (s : State) : State := { s with berth := f s.berth }
def onDoor (f : DoorRecord → DoorRecord) (s : State) : State := putDoor s 0 (f (doorAt s 0))
def onMac (f : Mac → Mac) (s : State) : State := { s with mac := f s.mac }
def onRlm (f : Rlm → Rlm) (s : State) : State := { s with rlm := f s.rlm }
def onReaderB (f : Reader → Reader) (s : State) : State := { s with readerB := f s.readerB }
def onTlp (f : Tlp → Tlp) (s : State) : State := { s with tlp := f s.tlp }
def onChannel (c : Channel) (f : ChannelRecord → ChannelRecord) (s : State) : State := putChannel s c (f (channelAt s c))

/-- The state with every copy and every computed value in order. -/
def inOrder (s : State) : State :=
  let causes := causesOf (sclInputOf s)
  let secure := causesEmpty causes
  let s : State :=
    { s with
      scl := ⟨sclInputOf s, causes, none, secure, secure && s.berth.state == .dispatching⟩
      mac := { s.mac with berthView := s.berth.state }
      ssc := { s.ssc with berthView := s.berth.state, doorViews := doorStatesOf s }
      dlc := { s.dlc with releaseInForce := perFireActive s.rlm.list } }
  { s with
    tlp := { s.tlp with values := trainValuesOf s }
    ilp := { s.ilp with values := ilValuesOf s }
    slp := { s.slp with values := stationValuesOf s } }

/-- The berthed platform in order, with door 1's poll under way and a command waiting. -/
def running (b : BerthState) (st : DoorState) : State :=
  { polled (inOrder (berthed b st)) with pending := [.deviceTimeTick] }

theorem after_next {c : Instr} {s : State} {p : State → Bool} (h : after c s p = true) :
    ∃ t, exec c s = .next t ∧ p t = true := by
  unfold after at h
  split at h
  · exact ⟨_, ‹_›, h⟩
  · cases h

theorem after_prop {c : Instr} {s : State} {P : State → Prop} [DecidablePred P]
    (h : after c s (fun t => decide (P t)) = true) : ∃ t, exec c s = .next t ∧ P t := by
  obtain ⟨t, ht, hp⟩ := after_next h
  exact ⟨t, ht, of_decide_eq_true hp⟩

/-- A step of the running platform answers a next state. -/
theorem running_steps (b : BerthState) (st : DoorState) : ∃ t, step (running b st) = .next t := ⟨_, rfl⟩

theorem witness_StepRunsFrontCommandAndIsAnswered : (running .released .opened).pending = .deviceTimeTick :: [] := rfl

/-- Nothing due; both timers of door 1 due with a block timer; its warning phase; a restart. -/
theorem witness_IdleStepTakesDueEventOrTicks :
    let settled : State := { oneDoor .opening with stopSettle := some 0 }
    let warned := onDoor ({ · with warningPhase := .on, warningTimer := some 0 }) settled
    let both := onDoor ({ · with stateTimer := some ⟨.opening, 0⟩ }) warned
    (oneDoor .opened).pending = [] ∧ dueEvent (oneDoor .opened) = none ∧ dueEvent settled = some .stopSettleExpiry ∧
    dueEvent warned = some (.warningOnExpiry 0) ∧ dueEvent both = some (.openTimeoutExpiry 0) ∧
    (dueEvent { both with restartDue := true }).isSome = true := by decide +kernel

theorem witness_WireBytesAndCommandsAgree :
    (Instr.openReq (frameOn .train [1, 2])).wellFormed = true ∧
    bytesOfCommand (.openReq (frameOn .train [1, 2])) = some (.train, frameBytes .v2 0x14 7 [1, 2]) := by decide +kernel

theorem witness_SecureLogicInvariantKept :
    secureInv (running .dispatching .closedLocked) ∧ secureInv (running .released .opened) := by
  unfold secureInv; decide +kernel

theorem witness_EnableSetInvariantKept :
    enableInv (running .released .opened) ∧ (running .released .opened).berth.enableSet.get 0 = true := by
  unfold enableInv; decide +kernel

/-- A list of one record of number 16; and a full list without PER, at which the PER line sets the overflow flag. -/
theorem witness_ReleaseListInvariantKept :
    releaseInv (onRlm (fun r => { r with list := [⟨16, .per, none, .active, 1, 1, 1⟩] }) (running .released .opened)) ∧
    (let full := onRlm (fun r => { r with list := (List.range 16).map fun i => ⟨i + 1, .handle ⟨i % 40, by omega⟩, none, .cleared, 0, 0, 1⟩ })
       (oneDoor .closedLocked)
     releaseInv full ∧ full.rlm.overflow = false ∧ after .perLineAssert full (fun t => t.rlm.overflow) = true) := by
  unfold releaseInv; decide +kernel

theorem witness_RecordRangesAndScanKept :
    rangeInv (running .released .opened) ∧ scanInv (running .released .opened) := by
  unfold rangeInv readerRanges channelRanges doorRanges scanInv; decide +kernel

theorem witness_ClosingAndHandleInvariantsKept :
    (closingInv (running .released .closing) ∧ (doorAt (running .released .closing) 0).state = .closing) ∧
    handleInv (running .released .opened) := by
  unfold closingInv handleInv fittedInv; decide +kernel

theorem running_configInv (b : BerthState) (st : DoorState) : configInv (running b st) := by
  have h : doorTableConsistent (running b st).geo.doors = true ∧
      spacingFailure (running b st).geo.doors (running b st).geo.formations = none := by
    show doorTableConsistent (oneDoor .opened).geo.doors = true ∧
      spacingFailure (oneDoor .opened).geo.doors (oneDoor .opened).geo.formations = none
    decide +kernel
  exact ⟨rfl, h⟩

theorem witness_AlignmentInvariantsKept :
    (alignedInv (running .stopped .closedLocked) ∧ (running .stopped .closedLocked).berth.outcome = some .aligned) ∧
    pairingInv (running .stopped .closedLocked) := by
  refine ⟨⟨fun _ => ⟨0, 0, 100, rfl, rfl, rfl, by decide, by decide⟩, rfl⟩, running_configInv _ _, nofun, ?_, ?_⟩
  · exact List.pairwise_singleton _ _
  · intro p hp _
    cases hp with
    | head => exact ⟨0, 0, 100, rfl, rfl, rfl, by decide⟩
    | tail _ h => cases h

theorem witness_HandedCopiesAndConfigurationKept :
    copiesInv (running .released .opened) ∧ fireModeInv (running .released .opened) ∧
    configInv (running .released .opened) :=
  ⟨by unfold copiesInv; decide +kernel, by unfold fireModeInv; decide +kernel, running_configInv _ _⟩

/-- A step from the platform at a door state, with the command alone in the queue. -/
theorem step_next {c : Instr} {s : State} {P : State → Prop} [DecidablePred P]
    (h : after c { s with pending := [] } (fun t => decide (P t)) = true) :
    ∃ t, step { s with pending := [c] } = .next t ∧ P t := by
  obtain ⟨t, ht, hp⟩ := after_prop h
  exact ⟨t, ht, hp⟩

/-- An open request at a CLOSED_LOCKED, a CLOSE_WAIT and a CLOSING door, and the PER line at a CLOSE_BLOCKED one. -/
theorem witness_DoorsOpenOnlyOnGroundsAndSecureMeansSafe :
    (∃ t, step { running .released .closedLocked with pending := [.openReq (frameOn .train [0])] } = .next t ∧
      (doorAt t 0).state = .unlocking) ∧
    (∃ t, step { running .released .closeWait with pending := [.openReq (frameOn .train [0])] } = .next t ∧
      (doorAt t 0).state = .reopening) ∧
    (∃ t, step { running .released .closing with pending := [.openReq (frameOn .train [0])] } = .next t ∧
      (doorAt t 0).state = .reopening ∧ (doorAt t 0).reopenCount ≠ (doorAt (running .released .closing) 0).reopenCount + 1) ∧
    (∃ t, step { running .released .closeBlocked with pending := [.perLineAssert] } = .next t ∧
      (doorAt t 0).state = .closeBlocked ∧ (doorAt t 0).command = some .reopen) ∧
    (doorAt (running .released .closeBlocked) 0).command = some .hold ∧
    secureInv (running .dispatching .closedLocked) ∧ fittedInv (running .dispatching .closedLocked) ∧
    enableInv (running .dispatching .closedLocked) ∧ (running .dispatching .closedLocked).scl.secure = true ∧
    (running .dispatching .closedLocked).scl.permit = true := by
  refine ⟨step_next (by decide +kernel), step_next (by decide +kernel), step_next (by decide +kernel),
    step_next (by decide +kernel), by decide +kernel, ?_⟩
  unfold secureInv fittedInv enableInv; decide +kernel

theorem witness_RefusedAndDiscardedFramesChangeNothing :
    (∃ t, exec (.releaseReq (frameOn .train [])) (oneDoor .opened) = .next t ∧
      Output.frame .train .v2 7 (.reply ⟨0x13, .refusedState, .none, none⟩) ∈ t.sent ∧
      ResultCode.refusedState ≠ .done) ∧
    (oneDoor .opened).restartDue = false ∧
    frameOf (.statusPoll (frameOn .interlocking [])) = some (0x22, frameOn .interlocking []) ∧
    ({ oneDoor .opened with restartDue := true } : State).restartDue = true :=
  ⟨after_prop (by decide +kernel), rfl, rfl, rfl⟩

theorem witness_GateAndFormRefuseInOrder :
    (maintenanceOnly (.doorTest (frameOn .station [1])) = true ∧ (oneDoor .opened).mac.mode ≠ .maintenance ∧
      frameOf (.doorTest (frameOn .station [1])) = some (0x49, frameOn .station [1]) ∧
      (Instr.doorTest (frameOn .station [1])).wellFormed = true ∧ (oneDoor .opened).restartDue = false) ∧
    (maintenanceOnly (.announce (frameOn .train [])) = false ∧ formFits (.announce (frameOn .train [])) = false) ∧
    (let c := Instr.closeReq ⟨.train, .v1, 7, []⟩
     formFits c = true ∧ needsSession c = true ∧ (berthed .released .opened).tlp.session = .opened ∧
       (berthed .released .opened).tlp.sessionVersion = some .v2) ∧
    (let c := Instr.stopReport ⟨.train, .v1, 7, [1, 0, 0, 0]⟩
     formFits c = true ∧ needsSession c = true ∧ (oneDoor .opened).tlp.session = .none) ∧
    (let c := Instr.stopReport ⟨.train, .v1, 7, [1, 0, 0, 0]⟩
     let s := onTlp ({ · with sessionVersion := some .v1 }) (berthed .released .opened)
     formFits c = true ∧ needsSession c = true ∧ s.tlp.session = .opened ∧ s.tlp.sessionVersion = some .v1 ∧
       s.restartDue = false) ∧
    (let c := Instr.closeReq (frameOn .train [])
     automaticOnly c = true ∧ (onMac ({ · with mode := .localMode }) (berthed .released .opened)).mac.mode ≠ .automatic ∧
       (berthed .released .opened).tlp.sessionVersion = some (frameOn .train []).version) ∧
    (let c := Instr.closeReq (frameOn .train [])
     formFits c = true ∧ needsSession c = true ∧ (oneDoor .opened).tlp.session = .none ∧
       (oneDoor .opened).mac.mode = .automatic) ∧
    ∀ g b, Instr.doorTest (frameOn .station [1]) ≠ .unassignedKindFrame g b := by
  refine ⟨by decide +kernel, by decide +kernel, by decide +kernel, by decide +kernel, by decide +kernel,
    by decide +kernel, by decide +kernel, nofun⟩

/-- The views in order, and the platform safe; no input changes; an input changes and leaves a cause; the last cause
goes; an input changes and none comes. -/
theorem witness_SecureLogicFollowsItsInputs :
    (fittedInv (running .stopped .closedLocked) ∧ platformSafe (running .stopped .closedLocked)) ∧
    (∃ t, exec .pollSend (running .stopped .closedLocked) = .next t ∧
      sclInputOf t = sclInputOf (running .stopped .closedLocked)) ∧
    (∃ t, exec .perLineAssert (running .stopped .closedLocked) = .next t ∧
      sclInputOf t ≠ sclInputOf (running .stopped .closedLocked) ∧ causesEmpty t.scl.causes = false) ∧
    (∃ t, exec (.pollReply 0 ⟨.closed, true, false, .normal, .normal, false, false⟩) (running .stopped .closing) = .next t ∧
      sclInputOf t ≠ sclInputOf (running .stopped .closing) ∧ causesEmpty t.scl.causes = true ∧
      (running .stopped .closing).scl.secure = false ∧ (running .stopped .closing).scl.confirm = none) ∧
    ∃ t, exec (.beamBreak .b) (running .dispatching .closedLocked) = .next t ∧
      sclInputOf t ≠ sclInputOf (running .dispatching .closedLocked) ∧ causesEmpty t.scl.causes = true ∧
      (running .dispatching .closedLocked).scl.secure = true := by
  refine ⟨⟨by unfold fittedInv; decide +kernel, by unfold platformSafe; decide +kernel⟩, ?_⟩
  exact ⟨after_prop (by decide +kernel), after_prop (by decide +kernel), after_prop (by decide +kernel),
    after_prop (by decide +kernel)⟩

/-- A departure, which both the train and the interlocking are told at once, and a door fault, which the station is. -/
theorem witness_PortsReportChangesAtOnce :
    (∃ t, exec (.beamBreak .b) (running .dispatching .closedLocked) = .next t ∧ t.restartDue = false ∧
      t.tlp.session = .opened ∧ t.ilp.link = .up ∧
      trainChange (trainValuesOf (running .dispatching .closedLocked)) (trainValuesOf t) = true ∧
      ilChange (ilValuesOf (running .dispatching .closedLocked)) (ilValuesOf t) = true ∧ t.sent.length = 2) ∧
    copiesInv (running .stopped .unlocking) ∧
    ∃ t, exec (.pollReply 0 ⟨.moving, false, false, .normal, .normal, true, false⟩) (running .stopped .unlocking) = .next t ∧
      t.slp.link = .up ∧ enabledFlagRaised (running .stopped .unlocking) t = true ∧ t.sent.length = 1 := by
  exact ⟨after_prop (by decide +kernel), by unfold copiesInv; decide +kernel, after_prop (by decide +kernel)⟩

/-- R156, R166, R170: a valid frame on a LOST interlocking link and on a LOST station link, and an ANNOUNCE taken again
at a RELEASED berth: the reply, then one report. -/
theorem witness_PortsReportReturnsAndAnnounces :
    let s := running .released .opened
    let cut := inOrder { s with ilp := { s.ilp with link := .lost, reportTimer := none } }
    let dark := inOrder { s with slp := { s.slp with link := .lost, statusTimer := none } }
    let announce : Frame := frameOn .train [0x12, 0x67, 0x01, 0x9A, 0x02, 0x02]
    (copiesInv s ∧ copiesInv cut ∧ copiesInv dark) ∧
    (∃ t, exec (.statusRead (frameOn .station [0])) dark = .next t ∧ dark.slp.link = .lost ∧ t.sent.length = 2) ∧
    (∃ t, exec (.unassignedKindFrame (frameOn .interlocking []) 0x3F) cut = .next t ∧ cut.ilp.link = .lost ∧
      t.sent.length = 2 ∧ t.ilp.reportTimer = some 20) ∧
    ∃ t, exec (.announce announce) s = .next t ∧ replied announce 0x10 .done .none none t ∧ t.sent.length = 2 ∧
      trainChange (trainValuesOf s) (trainValuesOf t) = false := by
  unfold copiesInv replied
  exact ⟨by decide +kernel, after_prop (by decide +kernel), after_prop (by decide +kernel), after_prop (by decide +kernel)⟩

/-- A RELEASED train of door 1 with a summary held: its ANNOUNCE sends the summary again, and a faulted motor takes
the door out of the enable set and sends a fresh one. -/
theorem witness_DoorSummaryHeldAndSent :
    let s := onTlp ({ · with heldSummary := some [⟨1, .served, some 0⟩] })
      (onBerth ({ · with formationSlot := some 6 }) (running .released .unlocking))
    let s := { s with geo := { s.geo with formations := s.geo.formations.set 6 slot7 } }
    let announce := Instr.announce (frameOn .train [0x12, 0x67, 0x01, 0x9A, 0x02, 0x02])
    (∃ t, exec announce s = .next t ∧ t.restartDue = false ∧ isStart announce = false ∧
      replied (frameOn .train [0x12, 0x67, 0x01, 0x9A, 0x02, 0x02]) 0x10 .done .none none t ∧ t.sent.length = 3) ∧
    ∃ t, exec (.pollReply 0 ⟨.moving, false, false, .normal, .normal, true, false⟩) s = .next t ∧ t.restartDue = false ∧
      leftEnableSet 0 s t ∧ t.tlp.session = .opened ∧ t.tlp.sessionVersion = some .v2 := by
  unfold replied leftEnableSet
  exact ⟨after_prop (by decide +kernel), after_prop (by decide +kernel)⟩

/-- R51, R54: the third miss of the one door of the enable set makes the berth DISPATCHING where a close is requested,
and leaves it RELEASED with the set empty where none is. -/
theorem test_miss_leaves_enable_set :
    let s := onDoor ({ · with missCount := 2 }) (running .released .closing)
    let asked := onBerth ({ · with closeRequested := true }) s
    after (.pollMiss 0) asked (fun t => t.berth.state == .dispatching && t.berth.enableSet == DoorSet.empty &&
      !t.berth.closeRequested && (doorAt t 0).state == .fault) = true ∧
    after (.pollMiss 0) s (fun t => t.berth.state == .released && !t.berth.enableSet.get 0 &&
      (doorAt t 0).faultCause == some .comms) = true := by decide +kernel

/-- Payloads of 240 and 241 bytes, and the numbers at the ends of their ranges. -/
theorem witness_SentFramesCarryTheirBytes :
    (payloadOf (.doorSummary none (List.replicate 79 ⟨1, .v1 true, none⟩))).length = 240 ∧
    (payloadOf (.doorSummary none (List.replicate 80 ⟨1, .v1 true, none⟩))).length = 243 ∧
    (some 65535).getD 0 < 65536 ∧ fits4 (some (-2147483648)) ∧ fits4 (some 2147483647) ∧ fits4 none ∧
    (∀ i, Detail.field 65535 = .field i → i < 65536) ∧
    (let v := { stationValuesOf State.reset with
       lastRefusal := some ⟨.forceClose, .refusedMode, 4294967295⟩, test := some ⟨39, .aborted, some .opened⟩ }
     v.lastRefusal = some ⟨.forceClose, .refusedMode, 4294967295⟩ ∧ v.trainId.getD 0 < 65536 ∧
       v.sessionTrainId.getD 0 < 65536 ∧ v.refusalCount < 256 ∧
       ∀ t st, v.test = some t → t.abortCause ≠ some (.doorState st)) := by
  refine ⟨by decide +kernel, by decide +kernel, by decide, by unfold fits4; decide, by unfold fits4; decide,
    by unfold fits4; decide, fun i h => by cases h; decide, rfl, by decide +kernel, by decide +kernel, by decide +kernel, ?_⟩
  intro t st h
  cases h
  nofun

/-- The records' numbers at the ends of their ranges, an unpaired entry among the pairing list. -/
theorem witness_SentRecordsCarryTheirBytes :
    let doors : Tab 40 DoorStatus := Tab.ofFn fun d => { doorStatusOf (DoorRecord.cold true) with reopenCount := 255, missCount := d.val }
    let release : ReleaseRecord := ⟨255, .train 8, some 65535, .cleared, 0, 4294967295, 255⟩
    let berth := { arrivedBerth with pairing := [⟨1, some 39, some (-200), true⟩, ⟨2, none, none, false⟩] }
    let sampled : ChannelRecord := { ChannelRecord.start true with state := .active, baseline := 16368, lastSample := some 1023 }
    (∀ d : Door, (doors.get d).reopenCount < 256 ∧ (doors.get d).missCount < 256) ∧
    (∀ r ∈ [release, ⟨1, .powerOn, none, .cleared, 0, 0, 1⟩], releaseFits r) ∧ berthFits berth ∧
    (∀ r, r = arrivedReader ∨ r = State.reset.readerB → fits2 r.count ∧ fits2 r.capture ∧ r.illegalCount < 256) ∧
    fits2 32767 ∧ fits2 (-32768) ∧ channelFits SensingEntry.factory sampled ∧ sampled.lastSample = some 1023 := by
  refine ⟨by decide +kernel, ?_, ?_, ?_, by unfold fits2; decide, by unfold fits2; decide, ?_, rfl⟩
  · intro r hr
    rcases List.mem_cons.mp hr with rfl | hr
    · exact ⟨by decide, fun car h => by cases h; decide, by decide, by decide, by decide, by decide⟩
    · obtain rfl := List.mem_singleton.mp hr
      exact ⟨by decide, nofun, by decide, by decide, by decide, by decide⟩
  · unfold berthFits fits4 fits2; decide +kernel
  · rintro r (rfl | rfl) <;> unfold fits2 <;> decide +kernel
  · unfold channelFits; decide +kernel

theorem witness_AnnounceAtEmptyBerthOpensOccupancy :
    let f := frameOn .train [0xFF, 0xFF, 0x00, 0x01, 8, 1]
    arrivedOn .train f (oneDoor .closedLocked) ∧ formAnnounce f.version f.payload = some ⟨65535, .v2, .fleet 1, 8, .a⟩ ∧
    (oneDoor .closedLocked).berth.state = .empty := by decide +kernel

/-- The ANNOUNCE of train 4711, heading B, at a DEPARTING berth; of another train's berth; at a RELEASED berth of the
same slot and of another; at ARRIVING and STOPPED berths with its id, and at every one without. -/
theorem witness_AnnounceAtOccupiedBerth :
    let f := frameOn .train [0x12, 0x67, 0x01, 0x9A, 0x02, 0x02]
    let a : Announce := ⟨4711, .v2, .fleet 410, 2, .b⟩
    let other := onBerth ({ · with trainId := some 12 }) (berthed .stopped .closedLocked)
    let slotted := onBerth ({ · with formationSlot := some 6 }) (berthed .released .opened)
    let unknown (b : BerthState) : State := onBerth ({ · with trainId := none, heading := some .a }) (berthed b .closedLocked)
    formAnnounce f.version f.payload = some a ∧ arrivedOn .train f (berthed .departing .closedLocked) ∧
    (berthed .departing .closedLocked).berth.state = .departing ∧
    (arrivedOn .train f other ∧ other.berth.state = .stopped ∧ other.berth.trainId = some 12 ∧ 12 ≠ a.trainId) ∧
    (arrivedOn .train f (berthed .released .opened) ∧ (berthed .released .opened).berth.trainId = some a.trainId ∧
      lookupFormation (berthed .released .opened).geo a = (berthed .released .opened).berth.formationSlot) ∧
    (slotted.berth.trainId = some a.trainId ∧ lookupFormation slotted.geo a ≠ slotted.berth.formationSlot) ∧
    (∀ b ∈ [BerthState.arriving, .stopped, .released, .dispatching, .creep],
      arrivedOn .train f (unknown b) ∧ (unknown b).berth.state = b ∧ (unknown b).berth.trainId = none ∧
        (unknown b).berth.stopCount = some 0) ∧
    (∀ b ∈ [BerthState.arriving, .stopped], arrivedOn .train f (berthed b .closedLocked) ∧
      (berthed b .closedLocked).berth.state = b ∧ (berthed b .closedLocked).berth.trainId = some a.trainId) := by
  decide +kernel

/-- Reports at an EMPTY berth, with offsets one beyond and at each end of the range, at an ARRIVING berth, and moving at
a RELEASED berth whose reader measures; and presences alike. An ARRIVING berth with the measuring reader in FAULT, for a
version 2 and a version 1 train; a STOPPED berth whose train reports a new front, and one whose train reports the same.
-/
theorem witness_TrainReportsRecordMotion :
    let f (p : List Byte) : Frame := frameOn .train p
    let empty := onBerth ({ · with state := .empty, heading := none }) (berthed .stopped .closedLocked)
    (inSession (f [1, 0, 0, 0]) empty ∧ formStopReport .v2 [1, 0, 0, 0] = some ⟨true, false, 0⟩ ∧
      empty.berth.state = .empty) ∧
    (formStopReport .v2 [1, 0, 0xEC, 0x77] = some ⟨true, false, -5001⟩ ∧
      formStopReport .v2 [1, 0, 0x13, 0x89] = some ⟨true, false, 5001⟩ ∧
      inSession (f [1, 0, 0x13, 0x89]) (berthed .stopped .closedLocked)) ∧
    (formStopReport .v2 [1, 0, 0xEC, 0x78] = some ⟨true, false, -5000⟩ ∧
      formStopReport .v2 [0, 1, 0x13, 0x88] = some ⟨false, true, 5000⟩ ∧
      inSession (f [1, 0, 0xEC, 0x78]) (berthed .arriving .closedLocked) ∧
      (∀ h, (berthed .arriving .closedLocked).berth.heading = some h →
        (readerAt (berthed .arriving .closedLocked) h).faultState = .normal)) ∧
    (inSession (f [0, 1, 0x13, 0x88]) (berthed .released .opened) ∧
      (berthed .released .opened).berth.stopCount.isSome = true ∧
      (∀ h, (berthed .released .opened).berth.heading = some h →
        (readerAt (berthed .released .opened) h).faultState = .normal)) ∧
    (formPresence .v2 [1, 0] = some ⟨true, false⟩ ∧ inSession (f [1, 0]) (berthed .arriving .closedLocked) ∧
      inSession (f [1, 0]) empty ∧ inSession (f [1, 0]) (berthed .released .opened)) ∧
    (let faulted := onReaderB ({ · with faultState := .fault, faultCause := some .health }) (berthed .arriving .closedLocked)
     inSession (f [1, 0, 0, 0]) faulted ∧ faulted.berth.state = .arriving ∧ faulted.berth.heading = some .b ∧
       (readerAt faulted .b).faultState = .fault ∧ faulted.berth.protocolVersion = some .v2 ∧
       (onBerth ({ · with protocolVersion := some .v1 }) faulted).berth.protocolVersion = some .v1) ∧
    (let same := onBerth ({ · with trainMotion := some .standing, trainReportedFrontX := some 195000 })
       (berthed .stopped .closedLocked)
     inSession (f [1, 0, 0, 0]) (berthed .stopped .closedLocked) ∧ inSession (f [1, 0, 0, 0]) same ∧
       (same.geo.berth.stopMarkBX : Int) + 0 = 195000 ∧ same.berth.state = .stopped ∧
       (berthed .stopped .closedLocked).berth.trainMotion ≠ some .standing) := by
  refine ⟨by decide +kernel, by decide +kernel, ⟨by decide +kernel, by decide +kernel, by decide +kernel, ?_⟩,
    ⟨by decide +kernel, by decide +kernel, ?_⟩, by decide +kernel, by decide +kernel, by decide +kernel⟩ <;>
  · intro h hh
    cases hh
    rfl

/-- In RELEASED: a moving report with no stop count, a moving presence with the reader in FAULT, the beam in each
state, and a step that takes the count one beyond the creep threshold of 2. -/
theorem witness_MovementInReleasedGivesCreep :
    let f (p : List Byte) : Frame := frameOn .train p
    let unmeasured := onBerth ({ · with stopCount := none }) (berthed .released .opened)
    let faulted := onReaderB ({ · with faultState := .fault, faultCause := some .health }) (berthed .released .opened)
    let broken := onReaderB ({ · with beam := .broken }) (berthed .released .opened)
    let crept := onReaderB ({ · with count := 2 }) (berthed .released .opened)
    (unmeasured.berth.state = .released ∧ inSession (f [0, 1, 0x13, 0x88]) unmeasured ∧
      formStopReport .v2 [0, 1, 0x13, 0x88] = some ⟨false, true, 5000⟩ ∧ unmeasured.berth.stopCount = none) ∧
    (faulted.berth.state = .released ∧ inSession (f [0, 1]) faulted ∧ formPresence .v2 [0, 1] = some ⟨false, true⟩ ∧
      faulted.berth.heading = some .b ∧ (readerAt faulted .b).faultState = .fault) ∧
    ((readerAt (berthed .released .opened) .b).beam = .clear ∧ (readerAt broken .b).beam = .broken ∧
      broken.berth.heading = some .b) ∧
    (crept.berth.state = .released ∧ (readerAt crept .b).faultState = .normal ∧ crept.berth.stopCount = some 0 ∧
      stepRefused .b (readerAt crept .b) = false ∧ crept.geo.berth.creepThreshold = 2 ∧
      crept.geo.berth.creepThreshold < ((readerAt crept .b).count + 1 - 0).natAbs) := by decide +kernel

/-- Movement of each kind in each berth state of the clauses, and counted steps in every one: of the measuring reader,
of the other, without a heading, at the threshold 2 and one beyond it. -/
theorem witness_MovementAndStepsByBerthState :
    let f (p : List Byte) : Frame := frameOn .train p
    (∀ b ∈ [BerthState.stopped, .dispatching, .creep, .departing],
      let s := berthed b .closedLocked
      let unmeasured := onBerth ({ · with stopCount := none }) s
      let broken := onReaderB ({ · with beam := .broken }) s
      let crept := onReaderB ({ · with count := 2 }) s
      s.berth.state = b ∧ movementTaken (.beamBreak .b) s ∧
      (inSession (f [0, 1, 0, 0]) unmeasured ∧ unmeasured.berth.stopCount = none ∧
        formStopReport .v2 [0, 1, 0, 0] = some ⟨false, true, 0⟩ ∧ formPresence .v2 [0, 1] = some ⟨false, true⟩ ∧
        inSession (f [0, 1]) unmeasured) ∧
      (b ≠ .departing → movementTaken (.beamClear .b) broken) ∧
      (countedStep .b .b 1 crept ∧ crept.berth.stopCount = some 0 ∧ crept.geo.berth.creepThreshold = 2 ∧
        crept.geo.berth.creepThreshold < ((readerAt crept .b).count + 1 - 0).natAbs)) ∧
    ((onRlm id { berthed .dispatching .closedLocked with scl := { (oneDoor .opened).scl with secure := true } }).scl.secure = true ∧
      (berthed .dispatching .closedLocked).scl.secure = false) ∧
    (∀ b ∈ [BerthState.empty, .arriving, .stopped, .released, .dispatching, .creep, .departing],
      let s := berthed b .closedLocked
      countedStep .b .b 1 s ∧ countedStep .a .a 3 s ∧ s.berth.heading = some .b ∧
        ((readerAt s .b).count + 1 - 0).natAbs ≤ s.geo.berth.creepThreshold) ∧
    (onBerth ({ · with heading := none }) (berthed .arriving .closedLocked)).berth.heading = none := by
  unfold movementTaken countedStep; decide +kernel

/-- The stop of the worked example and its degraded form, with a front in force each; fronts at both ends of the stop
window and one beyond; a reported front as far away as the cross-check limit 250 and one further. -/
theorem witness_AlignmentComputesItsResults :
    let form := exampleGeo.formations.get 6
    form = slot7 ∧ arrivedBerth.formationSlot = some 6 ∧ BerthRecord.atEmpty.formationSlot = none ∧
    frontInForce exampleGeo .b arrivedReader form arrivedBerth 178370 200 ∧
    frontInForce exampleGeo .b { arrivedReader with faultState := .fault } form arrivedBerth 178340 100 ∧
    (¬readerPlaces { arrivedReader with faultState := .fault } ∧ BerthRecord.atEmpty.trainReportedFrontX = none) ∧
    (withinWindow exampleGeo .b 177000 ∧ ¬withinWindow exampleGeo .b 176999 ∧ withinWindow exampleGeo .b 180500 ∧
      ¬withinWindow exampleGeo .b 180501 ∧ withinWindow exampleGeo .a 2500 ∧ ¬withinWindow exampleGeo .a 6001) ∧
    ¬frontsApart exampleGeo arrivedReader { arrivedBerth with trainReportedFrontX := some 178620 } 178370 ∧
    frontsApart exampleGeo arrivedReader { arrivedBerth with trainReportedFrontX := some 178621 } 178370 := by
  refine ⟨by decide +kernel, rfl, rfl, ?_, ?_, ⟨by decide, rfl⟩, by unfold withinWindow; decide +kernel, ?_,
    ⟨by decide, 178621, rfl, by decide +kernel⟩⟩
  · rw [frontInForce, if_pos (by decide)]
    exact ⟨by decide +kernel, 370, by unfold roundsTenths; decide +kernel, by decide +kernel⟩
  · rw [frontInForce, if_neg (by decide)]
    exact ⟨by decide +kernel, rfl⟩
  · rintro ⟨-, y, hy, h⟩
    cases hy
    exact absurd h (by decide +kernel)

/-- A MISALIGNED stop with a partial release authorised. -/
def partialStop : State :=
  let s := onBerth ({ · with outcome := some .misaligned, partialAuthorised := true, formationSlot := some 6 })
    (berthed .stopped .closedLocked)
  { s with geo := { s.geo with formations := s.geo.formations.set 6 slot7 } }

theorem partialStop_permits : stopPermits partialStop := .inr ⟨rfl, rfl, slot7, by decide +kernel, rfl⟩

theorem witness_ReleaseRequestGrantedOrRefusedInOrder :
    let f := frameOn .train []
    let s := berthed .stopped .closedLocked
    let gross := onBerth ({ · with outcome := some .gross }) s
    let unauthorised := onBerth ({ · with authorisation := none }) partialStop
    let otherwise := onBerth ({ · with authorisation := some 4712 }) s
    (inSession f s ∧ f.payload = [] ∧ s.mac.mode = .automatic ∧ s.berth.state = .stopped ∧
      stopPermits s ∧ s.berth.authorisation = some 4711 ∧ s.berth.trainId = some 4711) ∧
    (inSession f partialStop ∧ stopPermits partialStop ∧ partialStop.berth.authorisation = partialStop.berth.trainId) ∧
    (inSession f (berthed .released .opened) ∧ (berthed .released .opened).berth.state ≠ .stopped ∧
      (berthed .released .opened).berth.state ≠ .dispatching) ∧
    (¬stopPermits gross ∧ inSession f gross) ∧
    (inSession f unauthorised ∧ stopPermits unauthorised ∧ unauthorised.berth.authorisation = none) ∧
    (inSession f otherwise ∧ stopPermits otherwise ∧ otherwise.berth.authorisation ≠ otherwise.berth.trainId) := by
  refine ⟨⟨by decide, rfl, rfl, rfl, .inl rfl, rfl, rfl⟩, ⟨by decide, partialStop_permits, rfl⟩, by decide, ⟨?_, by decide⟩,
    ⟨by decide, partialStop_permits, rfl⟩, by decide, .inl rfl, by decide⟩
  rintro (h | ⟨h, -⟩) <;> cases h

/-- The open request for every door, in another state, without an authorisation, for car 8 of a train of none, and
taken. -/
theorem witness_OpenRequestCommandsEnabledDoors :
    inSession (frameOn .train [0]) (berthed .released .closedLocked) ∧ formOpenReq .v2 [0] = some [] ∧
    (berthed .released .closedLocked).mac.mode = .automatic ∧
    (berthed .released .closedLocked).berth.enableSet.get 0 = true ∧
    inSession (frameOn .train [0]) (berthed .stopped .closedLocked) ∧
    (onBerth ({ · with authorisation := none }) (berthed .released .closedLocked)).berth.authorisation = none ∧
    formOpenReq .v2 [1, 8] = some [8] ∧ formationCars (berthed .released .closedLocked) < 8 := by decide +kernel

/-- The close request in RELEASED with the door open, with every door closed, in CREEP, in STOPPED and during a PER. -/
theorem witness_CloseRequestClosesEnabledDoors :
    let f := frameOn .train []
    let per := inOrder (onRlm (fun r => { r with list := [⟨1, .per, none, .active, 0, 0, 1⟩] }) (berthed .released .opened))
    (∀ b ∈ [BerthState.released, .creep, .stopped], inSession f (berthed b .opened) ∧
      (berthed b .opened).mac.mode = .automatic ∧
      (berthed b .opened).dlc.releaseInForce = perFireActive (berthed b .opened).rlm.list) ∧
    f.payload = [] ∧ enableSetClosed (berthed .released .opened) = false ∧
    enableSetClosed (berthed .released .closedLocked) = true ∧
    inSession f per ∧ perFireActive per.rlm.list = true ∧ per.dlc.releaseInForce = perFireActive per.rlm.list := by
  decide +kernel

/-- Car 0 and car 2, the highest of slot 7, at a standing train; a full list; door 1 named in
each state of the clauses; car 3; nothing paired; an ARRIVING berth. -/
theorem witness_TrainEmergencyOpensNamedDoors :
    let full := onRlm (fun r => { r with list := (List.range 16).map fun i => ⟨i + 1, .handle ⟨i % 40, by omega⟩, none, .active, 0, 0, 1⟩ })
      partialStop
    let unpaired := onBerth ({ · with pairing := [] }) partialStop
    inSession (frameOn .train [2]) partialStop ∧ formTrainEmergency .v2 [2] = some 2 ∧
    formTrainEmergency .v2 [0] = some 0 ∧ partialStop.berth.state = .stopped ∧ formationCars partialStop = 2 ∧
    (inSession (frameOn .train [0]) full ∧ overflows full.rlm.list (.train 0) = true) ∧
    (∀ st ∈ [DoorState.closedLocked, .unlocking, .opening, .closeWait, .closing, .reopening, .closeBlocked, .isolated,
        .fault, .emergency, .init, .opened],
      let s := onDoor ({ · with state := st }) partialStop
      activeOf (triggered 0 none (.train 0) s.rlm.list) (.train 0) = true ∧ 0 ∈ emergencyDoorsNamed 0 s ∧
        fitted s 0 = true ∧ (doorAt s 0).cutOut = false ∧ (doorAt s 0).state = st) ∧
    (let held := onDoor ({ · with state := .reopening, stateTimer := some ⟨.reopenHold, 5⟩ })
       (onBerth ({ · with state := .released, enableSet := DoorSet.empty.insert 0, closeRequested := true }) partialStop)
     inSession (frameOn .train [0]) held ∧ timerIs .reopenHold (doorAt held 0) = true ∧
       held.berth.closeRequested = true ∧ perFireActive held.rlm.list = false ∧ held.berth.state = .released ∧
       held.berth.enableSet.get 0 = true ∧ 0 ∈ emergencyDoorsNamed 0 held ∧ fitted held 0 = true) ∧
    formTrainEmergency .v2 [3] = some 3 ∧
    (inSession (frameOn .train [0]) unpaired ∧ ∀ e ∈ unpaired.berth.pairing, e.paired = false) ∧
    inSession (frameOn .train [0]) (berthed .arriving .closedLocked) := by decide +kernel

theorem witness_EmergencyEndAndDepartNotice :
    inSession (frameOn .train []) (berthed .departing .closedLocked) ∧ (frameOn .train []).payload = [] ∧
    (berthed .departing .closedLocked).berth.state = .departing ∧
    (inSession (frameOn .train []) (berthed .arriving .closedLocked) ∧
      (berthed .arriving .closedLocked).readerA.beam = .clear ∧
      (berthed .arriving .closedLocked).readerB.beam = .clear) := by decide +kernel

theorem witness_InterlockingRequests :
    arrivedOn .interlocking (frameOn .interlocking [0, 0]) (oneDoor .opened) ∧
    arrivedOn .interlocking (frameOn .interlocking [0, 1]) (oneDoor .opened) ∧
    arrivedOn .interlocking (frameOn .interlocking []) (oneDoor .opened) := by decide +kernel

/-- Each mode of the request, in AUTOMATIC, in FIRE, without the key, and at a berth not EMPTY. -/
theorem witness_ModeSetChangesMode :
    let keyed := onMac ({ · with maintenanceKey := true }) (oneDoor .opened)
    let fire := onMac ({ · with mode := .fire, fireLine := true }) (oneDoor .opened)
    let testing := onMac ({ · with mode := .maintenance, test := some ⟨0, .running, none⟩ }) keyed
    (∀ b : Byte, b ∈ [0, 1, 2, 3, 4] → arrivedOn .station (frameOn .station [b]) keyed) ∧
    (arrivedOn .station (frameOn .station [1]) fire ∧ fire.mac.mode = .fire) ∧
    (arrivedOn .station (frameOn .station [3]) (oneDoor .opened) ∧ (oneDoor .opened).mac.maintenanceKey = false) ∧
    (arrivedOn .station (frameOn .station [3]) (inOrder (onMac ({ · with maintenanceKey := true }) (berthed .stopped .opened))) ∧
      (inOrder (berthed .stopped .opened)).mac.berthView ≠ .empty) ∧
    (arrivedOn .station (frameOn .station [2]) testing ∧ testing.mac.mode = .maintenance) := by decide +kernel

/-- The numbers at and beyond each end of 1 to 40; a position not fitted, an enabled door, an ACTIVE channel. -/
theorem witness_DoorCutoutCutinGapBypassAndReinit :
    let s := oneDoor .closedLocked
    let watched := onChannel (gapChannel 0) ({ · with state := .active }) s
    (∀ b : Byte, b ∈ [0, 1, 40, 41] → arrivedOn .station (frameOn .station [b]) s) ∧
    doorOfNumber 0 = none ∧ doorOfNumber 41 = none ∧ doorOfNumber 1 = some 0 ∧ doorOfNumber 40 = some 39 ∧
    fitted s 0 = true ∧ fitted s 39 = false ∧
    (arrivedOn .station (frameOn .station [1]) (berthed .released .opened) ∧
      (berthed .released .opened).berth.enableSet.get 0 = true) ∧
    (arrivedOn .station (frameOn .station [1]) watched ∧ (channelAt watched (gapChannel 0)).state = .active) := by
  decide +kernel

/-- R84: a poll reply that changes the state of door 1 sets the mark of its group, and one that does not sets none. -/
theorem test_state_change_sets_mark :
    let clear (s : State) : State := { s with dlc := { s.dlc with marks := Tab.fill 5 false } }
    let rep : Report := ⟨.closed, true, false, .normal, .normal, false, false⟩
    after (.pollReply 0 rep) (clear (running .stopped .closing))
      (fun t => (doorAt t 0).state == .closedLocked && t.dlc.marks.get 0 && !t.dlc.marks.get 1) = true ∧
    after (.pollReply 0 rep) (clear (running .stopped .closedLocked)) (fun t => t.dlc.marks == Tab.fill 5 false) = true := by
  decide +kernel

/-- A door blocked by an obstruction, one blocked by an occupied doorway, one not blocked, a PER; and the button. -/
theorem witness_ForceCloseMovesBlockedDoors :
    let f := frameOn .station [1]
    let blocked := onDoor ({ · with blockedCause := some .obstruction }) (oneDoor .closeBlocked)
    let held := onChannel (doorwayChannel 0) ({ · with state := .active, occupied := true })
      (onDoor ({ · with blockedCause := some .doorway }) (oneDoor .closeBlocked))
    let per := onRlm (fun r => { r with list := [⟨1, .per, none, .active, 0, 0, 1⟩] }) blocked
    let atConsole := onMac ({ · with mode := .localMode }) blocked
    (arrivedOn .station f blocked ∧ f.payload = [1] ∧ forceCloseAllowed (doorwayOf blocked 0) (doorAt blocked 0) = true) ∧
    (arrivedOn .station f held ∧ forceCloseAllowed (doorwayOf held 0) (doorAt held 0) = false) ∧
    (arrivedOn .station f (oneDoor .opened) ∧ arrivedOn .station f per ∧ perFireActive per.rlm.list = true) ∧
    (arrivedOn .station (frameOn .station [41]) blocked ∧ doorOfNumber 41 = none) ∧
    (atConsole.mac.mode = .localMode ∧ atConsole.mac.forceClosePressed = false ∧ (doorAt atConsole 0).state = .closeBlocked) := by
  decide +kernel

theorem witness_PartialReleaseAndBerthClear :
    let f := frameOn .station []
    let creep := onBerth ({ · with quiet := true }) (berthed .creep .opened)
    (arrivedOn .station f partialStop ∧ f.payload = [] ∧ partialStop.berth.state = .stopped ∧
      partialStop.berth.outcome = some .misaligned ∧ berthFormation partialStop = some slot7) ∧
    (arrivedOn .station f (berthed .stopped .opened) ∧ (berthed .stopped .opened).berth.outcome = some .aligned) ∧
    (arrivedOn .station f creep ∧ creep.berth.state = .creep ∧ creep.berth.quiet = true) ∧
    (arrivedOn .station f (berthed .creep .opened) ∧ (berthed .creep .opened).berth.quiet = false) := by decide +kernel

/-- With the RESTORE key: record numbers 1 and 16, ACTIVE and CLEARED, 2 not held; and MAINTENANCE with both keys. -/
theorem witness_RestoresRemoveAndRearm :
    let list : List ReleaseRecord := [⟨1, .per, none, .active, 0, 0, 1⟩, ⟨16, .fire, none, .cleared, 0, 0, 1⟩]
    let s := onMac ({ · with restoreKey := true, maintenanceKey := true }) (onRlm (fun r => { r with list := list }) (oneDoor .opened))
    let kept := onMac ({ · with mode := .maintenance }) s
    let clearable := onRlm (fun r => { r with list := list.drop 1 }) kept
    (∀ b : Byte, b ∈ [1, 2, 16, 255] → arrivedOn .station (frameOn .station [b]) s ∧ b ≠ 0) ∧ s.mac.restoreKey = true ∧
    (s.rlm.list.find? fun r => r.number == 16).map (·.state) = some .cleared ∧
    (s.rlm.list.find? fun r => r.number == 2) = none ∧
    (arrivedOn .station (frameOn .station []) (oneDoor .opened) ∧ (oneDoor .opened).mac.restoreKey = false) ∧
    (arrivedOn .station (frameOn .station []) kept ∧ kept.mac.mode = .maintenance ∧ ∃ r ∈ kept.rlm.list, r.state = .active) ∧
    (let lines := onRlm (fun r => { r with perLine := true, fireLine := true }) kept
     rearmSources lines list = [.fire] ∧ rearmSources lines [] = [.fire, .per] ∧ rearmSources kept list = [] ∧
       activeOf (triggeredAll 0 none [.fire] list) .fire = true ∧
       releaseSkips (doorAt lines 0).state = false ∧ fitted lines 0 = true) ∧
    (clearable.mac.mode = .maintenance ∧ ∀ r ∈ clearable.rlm.list, r.state ≠ .active) := by decide +kernel

/-- Door 1 waits for its occupied doorway, on the small platform with channel 41 enabled. -/
def doorwayWaited : State :=
  let s := onChannel 40 ({ · with state := .active, baseline := 500, occupied := true })
    (onDoor ({ · with stateTimer := some ⟨.doorwayWait, 5⟩ }) (oneDoor .closeWait))
  let geo := { s.geo with sensing := s.geo.sensing.set 40 ⟨true, 40, 3, 3⟩ }
  { s with geo := geo, store := geo }

/-- R98, R102, R70: the relearn of the DOORWAY channel ends the wait. -/
theorem test_relearn_ends_doorway_wait :
    after (.channelRelearn (frameOn .station [41])) doorwayWaited (fun t =>
      (doorAt t 0).state == .closing && (doorAt t 0).command == some .slowCloseLock &&
        (channelAt t 40).state == .settling) = true := by decide +kernel

/-- Channel numbers at and beyond each end of 1 to 80, and the channel of a doorway that a door waits for; both readers,
at an EMPTY berth, a low health line, a full berth. -/
theorem witness_ChannelRelearnAndReaderReset :
    let s := onChannel 79 ({ · with state := .fault }) (onChannel 0 ({ · with state := .active }) (oneDoor .opened))
    let low := onReaderB ({ · with health := false }) (oneDoor .opened)
    (∀ b : Byte, b ∈ [0, 1, 2, 80, 81] → arrivedOn .station (frameOn .station [b]) s) ∧
    channelOfNumber 0 = none ∧ channelOfNumber 81 = none ∧ channelOfNumber 1 = some 0 ∧ channelOfNumber 80 = some 79 ∧
    (channelAt s 1).state = .off ∧ (channelAt s 79).state = .fault ∧ s.berth.state = .empty ∧
    (readerAt s .a).health = true ∧
    (arrivedOn .station (frameOn .station [2]) low ∧ (readerAt low .b).health = false) ∧
    (arrivedOn .station (frameOn .station [1]) (berthed .stopped .opened) ∧
      (berthed .stopped .opened).berth.state ≠ .empty) ∧
    (arrivedOn .station (frameOn .station [41]) doorwayWaited ∧ channelOfNumber 41 = some 40 ∧ channelDoor 40 = 0 ∧
      isGap 40 = false ∧ (doorAt doorwayWaited 0).state = .closeWait ∧
      timerIs .doorwayWait (doorAt doorwayWaited 0) = true ∧ (channelAt doorwayWaited 40).state = .active ∧
      (channelAt doorwayWaited 40).occupied = true) := by decide +kernel

theorem witness_AttentionMasksAndDeviceTime :
    (arrivedOn .station (frameOn .station [0xFF, 3]) (oneDoor .opened) ∧ (3 : Byte).toNat < 4 ∧
      arrivedOn .station (frameOn .station [0, 4]) (oneDoor .opened) ∧ 4 ≤ (4 : Byte).toNat) ∧
    arrivedOn .station (frameOn .station [0xFF, 0xFF, 0xFF, 0xFF]) (oneDoor .opened) ∧
    (frameOn .station [0xFF, 0xFF, 0xFF, 0xFF]).payload = [0xFF, 0xFF, 0xFF, 0xFF] ∧
    (frameOn .train [0, 0, 0, 1]).link ≠ .station ∧ (oneDoor .opened).restartDue = false := by decide +kernel

/-- The masks 0 and 31; channels 0, 1, 80 and 81; each configuration table at an end of its range and one entry beyond.
-/
theorem witness_ReadsReturnTheirRecords :
    let s := oneDoor .opened
    (∀ b : Byte, b ∈ [0, 1, 31, 80, 81] → arrivedOn .station (frameOn .station [b]) s) ∧ (31 : Byte).toNat < 32 ∧
    arrivedOn .station (frameOn .station []) s ∧ channelOfNumber 80 = some 79 ∧ channelOfNumber 81 = none ∧
    arrivedOn .station (frameOn .station [1, 40]) s ∧ arrivedOn .station (frameOn .station [2, 1]) s ∧
    arrivedOn .station (frameOn .station [3, 1]) s ∧ arrivedOn .station (frameOn .station [4, 80]) s ∧
    arrivedOn .station (frameOn .station [5, 24]) s ∧ arrivedOn .station (frameOn .station [6, 1]) s ∧
    arrivedOn .station (frameOn .station [2, 2]) s ∧
    entryExists 6 1 = false ∧ entryExists 2 2 = false ∧ doorOfNumber 40 = some 39 ∧ slotOfNumber 24 = some 23 := by
  decide +kernel

/-- Keys of both versions; a formation that is valid and structured, in a slot of its identity and in one of another;
a list out of order; neighbouring doors. -/
theorem witness_LookupsAndConfigurationChecks :
    (Announce.mk 4711 .v2 (.fleet 410) 2 .b).key = .fleet 410 ∧ (Announce.mk 4711 .v1 (.number 15) 2 .b).key = .number 15 ∧
    (exampleGeo.formations.get 6).valid = true ∧ (exampleGeo.formations.get 7).valid = false ∧
    lookupFormation exampleGeo ⟨4711, .v2, .fleet 410, 2, .b⟩ = some 6 ∧
    lookupFormation exampleGeo ⟨4711, .v1, .number 7, 8, .b⟩ = some 6 ∧
    lookupFormation exampleGeo ⟨4711, .v1, .number 15, 8, .b⟩ = none ∧
    structured slot7 ∧ ¬structured { slot7 with trainDoors := [⟨5, 1⟩, ⟨5, 1⟩] } ∧
    formationFailure exampleGeo 7 slot7 = some (.slot 6) ∧
    neighbouring exampleGeo.doors 34 35 ∧ ¬neighbouring exampleGeo.doors 34 36 := by
  have hn : ¬structured { slot7 with trainDoors := [⟨5, 1⟩, ⟨5, 1⟩] } := fun h =>
    absurd (h.2.2.2 0 ⟨5, 1⟩ ⟨5, 1⟩ rfl rfl).1 (by decide)
  have hs : structured slot7 := by
    refine ⟨by decide, by decide, by decide, fun i a b ha hb => ?_⟩
    match i with
    | 0 | 1 | 2 | 3 | 4 => cases ha; cases hb; decide
    | i + 5 => cases hb
  refine ⟨rfl, rfl, by decide +kernel, by decide +kernel, by decide +kernel, by decide +kernel, by decide +kernel, hs, hn,
    by decide +kernel, ?_⟩
  unfold neighbouring; decide +kernel

/-- Table 2 with a trim of −50 and the creep threshold carried; table 5 with its list, one byte short and one byte over;
the empty field set; a field set that names the field 11, and bytes behind it; and table 6. -/
theorem witness_ConfigWriteFieldsCarriedOrStored :
    formConfigWrite [2, 1, 0x10, 2, 0xFF, 0xFF, 0xFF, 0xCE, 10] =
      some ⟨2, 1, [none, none, none, none, some (-50), none, none, none, none, some 10], none, none⟩ ∧
    carriedBytes 2 [none, none, none, none, some (-50), none, none, none, none, some 10] = [0xFF, 0xFF, 0xFF, 0xCE, 10] ∧
    trainDoorBytes (some [(199999, 8)]) = [1, 0x00, 0x03, 0x0D, 0x3F, 8] ∧
    formConfigWrite [5, 24, 0x41, 0, 1, 1, 0x00, 0x03, 0x0D, 0x3F, 8] =
      some ⟨5, 24, [some 1, none, none, none, none, none], some [(199999, 8)], none⟩ ∧
    formConfigWrite [5, 24, 0x41, 0, 1, 1, 0x00, 0x03, 0x0D, 0x3F] = none ∧
    formConfigWrite [5, 24, 0x41, 0, 1, 1, 0x00, 0x03, 0x0D, 0x3F, 8, 0] = none ∧
    formConfigWrite [4, 80, 0, 0] = some ⟨4, 80, [none, none, none, none], none, none⟩ ∧
    formConfigWrite [4, 80, 0, 4, 7, 7] = some ⟨4, 80, [none, none, none, none], none, some 11⟩ ∧
    formConfigWrite [6, 1, 1, 0, 7] = some ⟨6, 1, [], none, none⟩ ∧
    carriedFits 2 4 (-50) ∧ carriedFits 2 9 10 ∧ carriedFits 3 0 65535 ∧ ¬carriedFits 3 0 65536 ∧
    firstFailingField exampleGeo ⟨3, 1, [none, some 99, some 100], none, none⟩ = some 2 ∧
    firstFailingField exampleGeo ⟨3, 1, [none, some 1000, some 100], none, none⟩ = none ∧
    firstFailingField exampleGeo ⟨3, 1, [], none, some 11⟩ = some 11 := by
  unfold carriedFits; decide +kernel

/-- R8: the carried car index 2 is in range with the two cars of slot 7 and with two cars carried to slot 24, and out of
it with the one car that slot 24 holds; a write that leaves slot 24 not valid is refused all the same. -/
theorem test_car_index_range :
    firstFailingField exampleGeo ⟨5, 7, [], some [(0, 2)], none⟩ = none ∧
    firstFailingField exampleGeo ⟨5, 7, [], some [(0, 3)], none⟩ = some 7 ∧
    firstFailingField exampleGeo ⟨5, 24, [none, none, some 2], some [(0, 2)], none⟩ = none ∧
    firstFailingField exampleGeo ⟨5, 24, [], some [(0, 2)], none⟩ = some 7 ∧
    after (.configWrite (frameOn .station [5, 24, 0x41, 0, 0, 1, 0, 0, 0, 0, 2])) (onMac ({ · with mode := .maintenance }) (oneDoor .closedLocked))
      (fun t => decide (firstReply t = some ⟨0x48, .refusedRange, .none, none⟩)) = true := by decide +kernel

/-- The platform in MAINTENANCE. -/
def serviced : State := onMac ({ · with mode := .maintenance }) (oneDoor .closedLocked)

/-- A write of TIMERS with an empty field set, and of each table with one carried field: creep threshold 10, unlock
timeout 0.20 s, slot 24 left not valid, the centre of door 1, the threshold of channel 80. -/
theorem witness_ConfigWriteWritesOneEntry :
    let held (p : List Byte) : Prop := arrivedOn .station (frameOn .station p) serviced ∧ serviced.mac.mode = .maintenance ∧
      serviced.berth.state = .empty ∧ (formConfigWrite p).map (firstFailingField serviced.geo) = some none
    (held [2, 1, 0, 2, 10] ∧ ((formConfigWrite [2, 1, 0, 2, 10]).bind fun r =>
      berthConstantsFailure (writtenBerthConstants r serviced.geo.berth)) = none) ∧
    held [3, 1, 1, 0, 0, 20] ∧ held [3, 1, 0, 0] ∧
    (held [5, 24, 2, 0, 0, 9] ∧ (formConfigWrite [5, 24, 2, 0, 0, 9]).map (fun r =>
      (formationFailure serviced.geo 23 (writtenFormation r (serviced.geo.formations.get 23)),
        (writtenFormation r (serviced.geo.formations.get 23)).valid)) = some (none, false)) ∧
    (held [1, 1, 2, 0, 0, 0, 0x75, 0x30] ∧ (formConfigWrite [1, 1, 2, 0, 0, 0, 0x75, 0x30]).map (fun r =>
      ((writtenDoorGeometry r (serviced.geo.doors.get 0)).fitted,
        doorTableConsistent (serviced.geo.doors.set 0 (writtenDoorGeometry r (serviced.geo.doors.get 0))),
        spacingFailure (serviced.geo.doors.set 0 (writtenDoorGeometry r (serviced.geo.doors.get 0)))
          serviced.geo.formations)) = some (true, true, none)) ∧
    (held [4, 80, 2, 0, 3, 0xFF] ∧ (formConfigWrite [4, 80, 2, 0, 3, 0xFF]).map (fun r =>
      (writtenSensing r (serviced.geo.sensing.get 79)).enabled) = some false) := by decide +kernel

/-- Writes at a full berth, of table 6, of an unlock timeout below its range and of a field that TIMERS does not have,
of beams that would cross, of a formation without doors; of an EMERGENCY door's fitted field, of door 1 taken out and
door 40 put in, and of channel 1 enabled and of channel 41 disabled while its door waits for the occupied doorway. -/
theorem witness_ConfigWriteRefusalsAndService :
    let full := onMac ({ · with mode := .maintenance }) (berthed .stopped .opened)
    let pulled := onMac ({ · with mode := .maintenance }) (oneDoor .emergency)
    let fields (p : List Byte) : Option (Nat × Nat × Option Nat) :=
      (formConfigWrite p).map fun r => (r.table, r.entry, firstFailingField serviced.geo r)
    (arrivedOn .station (frameOn .station [3, 1, 0, 0]) full ∧ full.berth.state ≠ .empty ∧ fields [3, 1, 0, 0] = some (3, 1, none)) ∧
    (arrivedOn .station (frameOn .station [6, 1, 0, 0]) serviced ∧ entryExists 6 1 = false ∧
      (formConfigWrite [6, 1, 0, 0]).isSome = true) ∧
    (fields [3, 1, 1, 0, 0, 19] = some (3, 1, some 1) ∧ fields [3, 1, 0, 4] = some (3, 1, some 11) ∧
      entryExists 3 1 = true ∧ fields [2, 1, 2, 0, 0, 0, 0, 1] = some (2, 1, none) ∧
      ((formConfigWrite [2, 1, 2, 0, 0, 0, 0, 1]).bind fun r =>
        berthConstantsFailure (writtenBerthConstants r serviced.geo.berth)) = some 1 ∧
      fields [5, 24, 1, 0, 1] = some (5, 24, none) ∧
      ((formConfigWrite [5, 24, 1, 0, 1]).bind fun r =>
        formationFailure serviced.geo 23 (writtenFormation r (serviced.geo.formations.get 23))) = some .none) ∧
    (arrivedOn .station (frameOn .station [1, 1, 1, 0, 0]) pulled ∧ pulled.mac.mode = .maintenance ∧
      pulled.berth.state = .empty ∧ fields [1, 1, 1, 0, 0] = some (1, 1, none) ∧
      (pulled.geo.doors.get 0).fitted = true ∧ (doorAt pulled 0).state = .emergency) ∧
    (serviced.berth.state = .empty ∧ serviced.dlc.survey = .complete ∧ (doorAt serviced 0).state ≠ .emergency ∧
      (formConfigWrite [1, 1, 1, 0, 0]).map (fun r =>
        ((writtenDoorGeometry r (serviced.geo.doors.get 0)).fitted,
          doorTableConsistent (serviced.geo.doors.set 0 (writtenDoorGeometry r (serviced.geo.doors.get 0))),
          spacingFailure (serviced.geo.doors.set 0 (writtenDoorGeometry r (serviced.geo.doors.get 0)))
            serviced.geo.formations)) = some (false, true, none)) ∧
    (fields [1, 40, 3, 0, 1, 0, 3, 0, 0] = some (1, 40, none) ∧ (serviced.geo.doors.get 39).fitted = false ∧
      (formConfigWrite [1, 40, 3, 0, 1, 0, 3, 0, 0]).map (fun r =>
        ((writtenDoorGeometry r (serviced.geo.doors.get 39)).fitted,
          doorTableConsistent (serviced.geo.doors.set 39 (writtenDoorGeometry r (serviced.geo.doors.get 39))),
          spacingFailure (serviced.geo.doors.set 39 (writtenDoorGeometry r (serviced.geo.doors.get 39)))
            serviced.geo.formations)) = some (true, true, none)) ∧
    (arrivedOn .station (frameOn .station [4, 1, 1, 0, 1]) serviced ∧ fields [4, 1, 1, 0, 1] = some (4, 1, none) ∧
      (formConfigWrite [4, 1, 1, 0, 1]).map (fun r => (writtenSensing r (serviced.geo.sensing.get 0)).enabled) = some true) ∧
    (exampleGeo.sensing.get 35).enabled = true ∧ (channelAt serviced 0).state = .off ∧
    (let waiting := onMac ({ · with mode := .maintenance }) doorwayWaited
     arrivedOn .station (frameOn .station [4, 41, 1, 0, 0]) waiting ∧ waiting.berth.state = .empty ∧
       (formConfigWrite [4, 41, 1, 0, 0]).map (fun r =>
         (r.table, r.entry, firstFailingField waiting.geo r, (waiting.geo.sensing.get 40).enabled,
           (writtenSensing r (waiting.geo.sensing.get 40)).enabled)) = some (4, 41, none, true, false) ∧
       (doorAt waiting 0).state = .closeWait ∧ timerIs .doorwayWait (doorAt waiting 0) = true ∧
       (channelAt waiting 40).state = .active ∧ (channelAt waiting 40).occupied = true) := by
  refine ⟨?_, ?_, ?_, ?_, ?_, ?_, ?_, ?_, ?_⟩ <;> decide +kernel

/-- On the platform of the worked examples, door 36 moved back comes too close to door 35, its fitted neighbour below,
and door 37 moved forward too close to door 38, its neighbour above; and with two doors 700 mm apart a tolerance of 400
mm fails the spacing validation in slot 7. -/
theorem witness_ConfigWriteRefusesDoors :
    let moved (p : List Byte) (d : Door) : Tab 40 DoorGeometry :=
      match formConfigWrite p with
      | some r => exampleDoors.set d (writtenDoorGeometry r (exampleDoors.get d))
      | none => exampleDoors
    let lower := moved [1, 36, 2, 0, 0x00, 0x02, 0x34, 0x74] 35
    let upper := moved [1, 37, 2, 0, 0x00, 0x02, 0x78, 0x0C] 36
    let close := (Tab.fill 40 DoorGeometry.factory).set 0 ⟨true, 20000, 200⟩ |>.set 1 ⟨true, 20700, 200⟩
    ((lower.get 35).fitted = true ∧ neighbouring lower 34 35 ∧ ¬openingsClear lower 34 35) ∧
    ((upper.get 36).fitted = true ∧ neighbouring upper 36 37 ∧ ¬openingsClear upper 36 37 ∧
      openingsClear upper 35 36 ∧ ∀ j : Door, neighbouring upper j 36 → j = 35) ∧
    (doorTableConsistent close = true ∧
      spacingFailure close ((Tab.fill 24 Formation.factory).set 6 { slot7 with tolerance := 400 }) = some 6) := by
  refine ⟨?_, ?_, ?_⟩
  · unfold neighbouring openingsClear; decide +kernel
  · unfold neighbouring openingsClear; decide +kernel
  · decide +kernel

theorem witness_DoorTestAndRestart :
    (arrivedOn .station (frameOn .station [1]) serviced ∧ serviced.mac.mode = .maintenance ∧
      serviced.dlc.releaseInForce = perFireActive serviced.rlm.list ∧ serviced.mac.berthView = .empty ∧
      testRunning serviced.mac = false ∧ fitted serviced 0 = true ∧ (doorAt serviced 0).state = .closedLocked) ∧
    (arrivedOn .station (frameOn .station [40]) serviced ∧ fitted serviced 39 = false ∧ doorOfNumber 41 = none ∧
      arrivedOn .station (frameOn .station [41]) serviced) ∧
    (arrivedOn .station (frameOn .station []) serviced ∧ (frameOn .station []).payload = [] ∧ serviced.pending = []) := by
  decide +kernel

/-- The platform in MAINTENANCE with a test of door 1 RUNNING and its poll under way. -/
def tested (st : DoorState) : State :=
  polled (inOrder (onMac ({ · with mode := .maintenance, test := some ⟨0, .running, none⟩ }) (oneDoor st)))

/-- The rows of R150: each state that door 1 can enter in one event, the mode, the berth; and a door adopted
CLOSED_LOCKED which a PER release unlocks again. -/
theorem witness_DoorTestEnds :
    let rep (leaf : Leaf) (locked : Bool) (h : Handle) (i : IsolationSwitch) (m u : Bool) : Report :=
      ⟨leaf, locked, false, h, i, m, u⟩
    let ends (c : Instr) (s : State) (r : TestRecord) : Bool := after c s (fun t => decide (t.mac.test = some r))
    let per := onRlm (fun r => { r with list := [⟨1, .per, none, .active, 0, 0, 1⟩] }) (tested .closing)
    (testInv (tested .closing) ∧ copiesInv (tested .closing)) ∧
    ends (.pollReply 0 (rep .closed true .normal .normal false false)) (tested .closing) ⟨0, .passed, none⟩ ∧
    ends (.pollReply 0 (rep .opened false .normal .normal false false)) (tested .opening) ⟨0, .aborted, some .opened⟩ ∧
    ends (.pollReply 0 (rep .opened false .pulled .normal false false)) (tested .opening)
      ⟨0, .aborted, some (.doorState .emergency)⟩ ∧
    ends (.pollReply 0 (rep .moving false .normal .normal true false)) (tested .closing)
      ⟨0, .aborted, some (.doorState .fault)⟩ ∧
    ends (.pollReply 0 (rep .closed true .normal .isolated false false)) (tested .closing)
      ⟨0, .aborted, some (.doorState .isolated)⟩ ∧
    ends (.doorReinit (frameOn .station [1])) (tested .closing) ⟨0, .aborted, some (.doorState .init)⟩ ∧
    ends (.configWrite (frameOn .station [1, 1, 1, 0, 0])) (tested .closing) ⟨0, .aborted, some (.doorState .absent)⟩ ∧
    ends (.modeSet (frameOn .station [1])) (tested .closing) ⟨0, .aborted, some .mode⟩ ∧
    ends (.beamBreak .a) (tested .closing) ⟨0, .aborted, some .berth⟩ ∧
    ends (.pollReply 0 (rep .moving false .normal .normal false false)) (tested .closing) ⟨0, .running, none⟩ ∧
    adoptedThenOpened (.pollReply 0 (rep .closed true .normal .normal false true)) 0 per ∧
    ends (.pollReply 0 (rep .closed true .normal .normal false true)) per ⟨0, .passed, none⟩ := by
  refine ⟨?_, ?_, ?_, ?_, ?_, ?_, ?_, ?_, ?_, ?_, ?_,
    ⟨rfl, rfl, rfl, by decide +kernel, by decide +kernel, _, rfl, rfl, rfl, rfl, rfl, rfl, .inl rfl⟩, ?_⟩
  · unfold testInv copiesInv
    exact ⟨fun r hr _ => ⟨rfl, rfl⟩, by decide +kernel⟩
  all_goals decide +kernel

theorem witness_LocalSwitchEdgeChoosesMode :
    (oneDoor .opened).mac.localSwitch ≠ .atRemote ∧
    (onMac ({ · with localSwitch := .atRemote }) (oneDoor .opened)).mac.localSwitch ≠ .atLocal := by decide +kernel

theorem witness_KeysButtonReleasesAndRefusedButtons :
    buttonPressed (onMac ({ · with localOpenPressed := true }) (oneDoor .opened)).mac .localOpen = true ∧
    buttonPressed (oneDoor .opened).mac .localClose = false ∧ (oneDoor .opened).mac.mode ≠ .localMode := by decide +kernel

/-- In LOCAL: RELEASED and STOPPED with the train's authorisation and without, a partial stop, a GROSS one, and CREEP.
-/
theorem witness_LocalOpenReleasesAndOpens :
    let at_ (b : BerthState) : State := onMac ({ · with mode := .localMode }) (berthed b .closedLocked)
    (∀ b ∈ [BerthState.released, .stopped, .creep],
      (at_ b).mac.mode = .localMode ∧ (at_ b).mac.localOpenPressed = false ∧ (at_ b).berth.state = b) ∧
    (at_ .released).berth.authorisation = some 4711 ∧ (at_ .released).berth.trainId = some 4711 ∧
    (∀ st ∈ [DoorState.closedLocked, .closeWait, .closing, .reopening, .opened],
      let s := onMac ({ · with mode := .localMode }) (berthed .released st)
      s.berth.state = .released ∧ s.berth.enableSet.get 0 = true ∧ (doorAt s 0).state = st ∧
        s.berth.authorisation = some 4711) ∧
    (at_ .released).berth.enableSet.get 1 = false ∧
    ((at_ .stopped).tlp.session = .opened ∧ (at_ .stopped).tlp.sessionVersion = some .v2 ∧
      (at_ .stopped).restartDue = false) ∧
    stopPermits (at_ .stopped) ∧ stopPermits (onMac ({ · with mode := .localMode }) partialStop) ∧
    ¬stopPermits (onBerth ({ · with outcome := some .gross }) (at_ .stopped)) ∧
    (onBerth ({ · with authorisation := none }) (at_ .released)).berth.authorisation = none := by
  refine ⟨by decide +kernel, rfl, rfl, by decide +kernel, by decide +kernel, by decide +kernel, .inl rfl,
    partialStop_permits, ?_, rfl⟩
  rintro (h | ⟨h, -⟩) <;> cases h

theorem witness_LocalCloseClosesOpenDoors :
    let s := onMac ({ · with mode := .localMode }) (berthed .released .opened)
    let per := inOrder (onRlm (fun r => { r with list := [⟨1, .per, none, .active, 0, 0, 1⟩] }) s)
    (s.mac.mode = .localMode ∧ s.mac.localClosePressed = false ∧
      s.dlc.releaseInForce = perFireActive s.rlm.list ∧ enableSetClosed s = false) ∧
    (per.mac.mode = .localMode ∧ per.mac.localClosePressed = false ∧
      per.dlc.releaseInForce = perFireActive per.rlm.list ∧ perFireActive per.rlm.list = true) := by decide +kernel

/-- The rows of R109 for a TRAIN trigger at device time 90, of train 7: an ACTIVE record, a CLEARED one with 255
occurrences, none with the numbers 1 and 3 held, and a full list. -/
theorem test_trigger_rows :
    let hour : ReleaseRecord := ⟨3, .per, none, .cleared, 5, 6, 2⟩
    let full : List ReleaseRecord := (List.range 16).map fun i => ⟨i + 1, .handle ⟨i % 40, by omega⟩, none, .cleared, 0, 0, 1⟩
    triggered 90 (some 7) (.train 2) [⟨1, .train 2, some 4, .active, 1, 2, 3⟩, hour] =
      [⟨1, .train 2, some 7, .active, 1, 90, 3⟩, hour] ∧
    triggered 90 (some 7) (.train 2) [hour, ⟨1, .train 2, some 4, .cleared, 1, 2, 255⟩] =
      [hour, ⟨1, .train 2, some 7, .active, 1, 90, 255⟩] ∧
    triggered 90 (some 7) .per [hour] = [⟨3, .per, none, .active, 5, 90, 3⟩] ∧
    triggered 90 (some 7) (.train 2) [⟨1, .train 0, some 4, .active, 1, 2, 3⟩, hour] =
      [⟨1, .train 0, some 4, .active, 1, 2, 3⟩, hour, ⟨2, .train 2, some 7, .active, 90, 90, 1⟩] ∧
    triggered 90 none .fire full = full ∧ overflows full .fire = true ∧ overflows full (.handle 15) = false := by
  decide +kernel

/-- Equal levels, the next and the previous state, the opposite one; a count at each end of its range. -/
theorem witness_LineTransitionsAndHealthLine :
    let r := readerAt (oneDoor .opened) .a
    let top := readerAt { oneDoor .opened with readerA := { r with count := 32767, sense := .b } } .a
    let bottom := readerAt { oneDoor .opened with readerA := { r with count := -32768, sense := .a } } .a
    ((0 : LineState) = r.lineState ∧ (1 : LineState) = r.lineState + 1 ∧ (3 : LineState) = r.lineState - 1 ∧
      (2 : LineState) = r.lineState + 2) ∧
    (r.faultState = .normal ∧ End.b = top.sense ∧ top.count = 32767 ∧ End.b ≠ bottom.sense ∧ bottom.count = -32768) ∧
    ((readerAt (oneDoor .opened) .b).health = true ∧ (.b : End) ≠ .a) ∧
    (let s := onReaderB ({ · with faultState := .normal, illegalCount := 3 }) (berthed .stopped .closedLocked)
     (readerAt s .b).faultState = .normal ∧ s.berth.state = .stopped ∧ s.berth.heading = some .b ∧
       (∃ t, exec (.healthLineDrop .b) s = .next t ∧ (readerAt t .b).faultState = .fault) ∧
       ∃ t, exec (.lineTransition .b ((readerAt s .b).lineState + 2)) s = .next t ∧
         (readerAt t .b).faultState = .fault) := by
  exact ⟨by decide +kernel, by decide +kernel, by decide +kernel, by decide +kernel, by decide +kernel, by decide +kernel,
    after_prop (by decide +kernel), after_prop (by decide +kernel)⟩

/-- A CLEAR beam at an EMPTY berth and at an ARRIVING one without a heading; a BROKEN one in DEPARTING, in EMPTY; both
in ARRIVING with a heading, without a session too; the beam that does not measure in RELEASED. -/
theorem witness_BeamsCaptureAndOccupy :
    let nameless := onReaderB ({ · with lastStep := .towards .b })
      (onBerth ({ · with heading := none }) (berthed .arriving .closedLocked))
    let leaving := onReaderB ({ · with beam := .broken }) (berthed .departing .closedLocked)
    let stray := onReaderB ({ · with beam := .broken }) (oneDoor .closedLocked)
    ((readerAt (oneDoor .closedLocked) .b).beam = .clear ∧ (oneDoor .closedLocked).berth.state = .empty) ∧
    ((readerAt nameless .b).beam = .clear ∧ nameless.berth.state = .arriving ∧ nameless.berth.heading = none ∧
      (readerAt nameless .b).lastStep = .towards (readerAt nameless .b).sense) ∧
    ((readerAt leaving .b).beam = .broken ∧ leaving.berth.state = .departing ∧ leaving.berth.heading = some .b) ∧
    ((readerAt stray .b).beam = .broken ∧ stray.berth.state = .empty) ∧
    (let held := berthed .arriving .closedLocked
     let parted := onTlp ({ · with session := .none }) held
     (readerAt held .b).beam = .clear ∧ held.berth.state = .arriving ∧ held.berth.heading ≠ none ∧
       parted.readerA.beam = .clear ∧ parted.readerB.beam = .clear ∧ parted.tlp.session = .none ∧
       (readerAt (onReaderB ({ · with beam := .broken }) parted) .b).beam = .broken) ∧
    (let apart := berthed .released .opened
     (readerAt apart .a).beam = .clear ∧ apart.berth.state ≠ .empty ∧ apart.berth.state ≠ .arriving ∧
       apart.berth.heading ≠ some .a) := by decide +kernel

/-- No poll under way, with a door and without; one under way; the states of a missed door. -/
theorem witness_PollsAndMisses :
    (oneDoor .opened).dlc.awaitingReply = false ∧ nextToPoll (oneDoor .opened) = some 0 ∧
    State.reset.dlc.awaitingReply = false ∧ nextToPoll State.reset = none ∧
    ((polled (oneDoor .opened)).dlc.awaitingReply = true ∧ (polled (oneDoor .opened)).dlc.lastPolled = some 0 ∧
      (polled (oneDoor .opened)).dlc.lastPolled ≠ some 39) ∧
    (doorAt (polled State.reset) 0).state = .absent ∧
    (∀ st ∈ [DoorState.opened, .init, .fault, .emergency],
      let s := onDoor ({ · with missCount := 2 }) (polled (berthed .released st))
      (doorAt s 0).missCount + 1 = 3 ∧ (doorAt s 0).state = st ∧ s.berth.enableSet.get 0 = true ∧ surveyInv s ∧
        s.dlc.survey = .complete) ∧
    (doorAt (polled (oneDoor .opened)) 0).missCount + 1 ≠ 3 := by unfold surveyInv; decide +kernel

/-- Every state of the clauses at door 1, the reports of each, the reopen counts 2 and 3, the last door to close, and a
position in ABSENT. -/
theorem witness_ReportsDriveOpeningAndClosing :
    let rep (leaf : Leaf) (locked obs : Bool) : Report := ⟨leaf, locked, obs, .normal, .normal, false, false⟩
    let asked := polled (onBerth ({ · with closeRequested := true }) (berthed .released .closing))
    (∀ r ∈ [rep .opened false false, rep .closed true false, rep .moving false true],
      r.handle = .normal ∧ r.isolation = .normal ∧ r.motorFault = false ∧ r.unitRestarted = false) ∧
    (∀ st ∈ [DoorState.unlocking, .opening, .closing, .reopening, .opened, .closedLocked, .closeWait, .closeBlocked, .fault],
      let s := polled (berthed .released st)
      s.dlc.awaitingReply = true ∧ s.dlc.lastPolled = some 0 ∧ s.berth.closeRequested = false ∧
        s.dlc.releaseInForce = perFireActive s.rlm.list ∧
        (doorAt s 0).state = st ∧ (doorAt s 0).state ≠ .absent ∧ surveyInv s ∧ s.berth.state = .released ∧
        s.berth.enableSet.get 0 = true) ∧
    (∀ st ∈ [DoorState.unlocking, .opening, .reopening],
      let s := polled (onBerth ({ · with closeRequested := true }) (berthed .released st))
      reClosed s 0 ∧ (doorAt s 0).closePending = false ∧ ¬reClosed (polled (berthed .released st)) 0) ∧
    (doorAt (onDoor ({ · with reopenCount := 3 }) (berthed .released .closing)) 0).reopenCount = 3 ∧
    ((polled State.reset).dlc.awaitingReply = true ∧ (doorAt (polled State.reset) 0).state = .absent) ∧
    (doorAt (onDoor ({ · with closePending := true }) (berthed .released .reopening)) 0).closePending = true ∧
    (asked.dlc.awaitingReply = true ∧ asked.dlc.lastPolled = some 0 ∧ asked.berth.state = .released ∧
      asked.berth.closeRequested = true ∧ asked.berth.enableSet.get 0 = true ∧ (doorAt asked 0).state = .closing ∧
      ∀ e : Door, e ≠ 0 → asked.berth.enableSet.get e = true →
        (doorAt asked e).state = .closedLocked ∨ (doorAt asked e).state = .isolated) := by
  unfold surveyInv; decide +kernel

/-- A door in INIT, one whose unit has restarted, one back from isolation, and one in every other state of the clauses;
a report for each row of R66. -/
theorem witness_ReportsAdoptHandleIsolationAndMotor :
    let rep (leaf : Leaf) (locked : Bool) (h : Handle) (i : IsolationSwitch) (m u : Bool) : Report :=
      ⟨leaf, locked, false, h, i, m, u⟩
    (∀ st ∈ [DoorState.init, .opened, .isolated, .emergency, .closedLocked, .fault],
      let s := polled (berthed .released st)
      s.dlc.awaitingReply = true ∧ s.dlc.lastPolled = some 0 ∧ (doorAt s 0).state = st ∧ (doorAt s 0).state ≠ .absent ∧
        s.dlc.survey = .complete ∧ s.berth.state = .released ∧ s.dlc.releaseInForce = perFireActive s.rlm.list) ∧
    (rep .opened false .normal .normal false true).unitRestarted = true ∧
    (rep .closed true .pulled .normal false false).handle = .pulled ∧
    (rep .closed true .normal .isolated false false).isolation = .isolated ∧
    (rep .moving false .normal .normal true false).motorFault = true ∧
    (rep .closed true .normal .normal false false).leaf = .closed ∧
    (rep .closed false .normal .normal false false).locked = false ∧
    perFireActive (berthed .released .init).rlm.list = false := by decide +kernel

/-- R85: the report that takes the last door out of INIT completes a RUNNING survey; one that leaves it in INIT does
not. -/
theorem witness_SurveyCompletes :
    let s := polled (oneDoor .init)
    let s := { s with dlc := { s.dlc with survey := .running } }
    surveyInv s ∧ s.dlc.survey = .running ∧ surveyInv (oneDoor .closedLocked) ∧
    after (.pollReply 0 ⟨.closed, true, false, .normal, .normal, false, false⟩) s
      (fun t => t.dlc.survey == .complete && (doorAt t 0).state == .closedLocked) = true ∧
    after (.pollReply 0 ⟨.moving, false, false, .normal, .normal, false, false⟩) s
      (fun t => t.dlc.survey == .running && (doorAt t 0).state == .init) = true := by
  unfold surveyInv; decide +kernel

/-- Each timer run out at a door in each of its states, one with time left, and one that does not run. -/
theorem witness_DoorTimeoutsFaultTheDoor :
    let at_ (st : DoorState) (k : StateTimerKind) : State := onDoor ({ · with stateTimer := some ⟨k, 0⟩ }) (oneDoor st)
    (∀ p ∈ [(DoorState.unlocking, StateTimerKind.unlock), (.opening, .opening), (.reopening, .opening), (.init, .opening),
        (.closing, .close)],
      (doorAt (at_ p.1 p.2) 0).stateTimer = some ⟨p.2, 0⟩ ∧ (doorAt (at_ p.1 p.2) 0).state = p.1 ∧
        (at_ p.1 p.2).dlc.survey = .complete ∧ surveyInv (at_ p.1 p.2)) ∧
    (doorAt (onDoor ({ · with stateTimer := some ⟨.unlock, 1⟩ }) (oneDoor .unlocking)) 0).stateTimer ≠ some ⟨.unlock, 0⟩ ∧
    (doorAt (oneDoor .unlocking) 0).stateTimer ≠ some ⟨.unlock, 0⟩ := by
  unfold surveyInv; decide +kernel

/-- Hypotheses on the state alone: the channel before and after each step of its count, at and off the rails. -/
theorem witness_ConversionsJudgeSamples :
    let at_ (st : ChannelState) : State :=
      converting 0 (onChannel 0 ({ · with state := st, railCount := 7, consecutive := 14 }) (oneDoor .closedLocked))
    (at_ .active).ssc.inFlight = some 0 ∧ (at_ .active).ssc.inFlight ≠ some 79 ∧ (oneDoor .opened).ssc.inFlight ≠ some 0 ∧
    (∀ st ∈ [ChannelState.settling, .learning, .active, .fault],
      (channelAt (at_ st) 0).state = st ∧ (channelAt (at_ st) 0).state ≠ .off ∧ 7 ≤ (channelAt (at_ st) 0).railCount ∧
        (channelAt (at_ st) 0).consecutive < 15) ∧
    (channelAt (oneDoor .closedLocked) 0).state = .off ∧ (0 : Sample).val = 0 ∧ (1023 : Sample).val = 1023 ∧
    ¬((1 : Sample).val = 0 ∨ (1 : Sample).val = 1023) ∧ ¬7 ≤ (channelAt (oneDoor .opened) 0).railCount ∧ trackingHolds (inOrder (at_ .learning)) 0 = true ∧
    trackingHolds (inOrder (berthed .stopped .closedLocked)) 0 = false ∧
    (channelAt (onChannel 0 ({ · with state := .learning, learnCount := 15 }) (oneDoor .closedLocked)) 0).learnCount = 15 ∧
    (channelAt (at_ .learning) 0).learnCount ≠ 15 ∧ copiesInv (inOrder (at_ .learning)) := by
  unfold copiesInv; decide +kernel

/-- The settle time expiring at an ARRIVING berth without and with a heading and at a CREEP one, NORMAL and in FAULT;
with time left, and not running; a check owed with time left; a step to meet the check in both states. -/
theorem witness_StopSettleDecidesStopping :
    let at_ (b : BerthState) : State := { berthed b .closedLocked with stopSettle := some 0 }
    let nameless := onBerth ({ · with heading := none }) (at_ .arriving)
    ((oneDoor .opened).stopSettle = none ∧ (oneDoor .opened).checkOwed = none) ∧
    (({ at_ .arriving with stopSettle := some 1 } : State).stopSettle = some 1 ∧ (at_ .arriving).checkOwed = none) ∧
    (nameless.stopSettle = some 0 ∧ nameless.berth.state = .arriving ∧ nameless.berth.heading = none) ∧
    (∀ b ∈ [BerthState.arriving, .creep],
      let owed : State := { at_ b with stopSettle := some 150, checkOwed := some .b }
      (at_ b).stopSettle = some 0 ∧ (at_ b).berth.state = b ∧ (at_ b).berth.heading = some .b ∧
        (readerAt (at_ b) .b).faultState = .normal ∧
        (readerAt (onReaderB ({ · with faultState := .fault }) (at_ b)) .b).faultState = .fault ∧
        countedStep .b .b 1 (at_ b) ∧ owed.checkOwed = owed.berth.heading ∧
        (readerAt owed .b).faultState = .normal) := by unfold countedStep; decide +kernel

/-- R21: a step and a settle check that meet. The step first, the check reads yes and clears edge seen; the check
first, the step sets it again. -/
theorem test_step_and_settle_check :
    let s : State := { berthed .creep .closedLocked with stopSettle := some 0 }
    after (.lineTransition .b 1) s (fun t =>
      t.readerB.edgeSeen && t.checkOwed == some .b && t.stopSettle == some 150 &&
      after .stopSettleExpiry t (fun u => !u.readerB.edgeSeen && !u.berth.quiet && u.checkOwed == none)) = true ∧
    after .stopSettleExpiry s (fun t => !t.readerB.edgeSeen && t.berth.quiet &&
      after (.lineTransition .b 1) t (fun u => u.readerB.edgeSeen && !u.berth.quiet && u.checkOwed == none)) = true := by
  decide +kernel

theorem witness_QuietConfirmAndSecondTimersExpire :
    let at_ (b : BerthState) : State :=
      onTlp ({ · with session := .none }) { berthed b .closedLocked with departureQuiet := some 0 }
    let s := oneDoor .closedLocked
    (∀ b ∈ [BerthState.departing, .arriving],
      (at_ b).departureQuiet = some 0 ∧ (at_ b).tlp.session = .none ∧ (at_ b).berth.state = b ∧
        (at_ b).readerA.beam = .clear ∧ (at_ b).readerB.beam = .clear) ∧
    s.departureQuiet ≠ some 0 ∧ s.scl.confirm ≠ some 0 ∧
    ({ s with scl := { s.scl with confirm := some 0 } } : State).scl.confirm = some 0 := by decide +kernel

/-- Each timer of the three ports run out, one with time left, and one that does not run. -/
theorem witness_LinkTimersActAtTheirExpiry :
    let s := onTlp ({ · with statusTimer := some 0, supervision := some 0 }) (berthed .departing .closedLocked)
    let s := { s with
      ilp := { s.ilp with supervision := some 0, reportTimer := some 0 }
      slp := { s.slp with supervision := some 0, statusTimer := some 0 } }
    (s.tlp.supervision = some 0 ∧ s.ilp.supervision = some 0 ∧ s.slp.supervision = some 0 ∧
      s.tlp.session = .opened ∧ s.tlp.statusTimer = some 0 ∧ s.ilp.link = .up ∧ s.ilp.reportTimer = some 0 ∧
      s.slp.link = .up ∧ s.slp.statusTimer = some 0 ∧ s.restartDue = false) ∧
    (onTlp ({ · with supervision := none }) s).tlp.supervision ≠ some 0 ∧
    (let u := berthed .departing .closedLocked
     u.tlp.supervision ≠ some 0 ∧ u.ilp.supervision ≠ some 0 ∧ u.slp.supervision ≠ some 0 ∧
       u.tlp.statusTimer ≠ some 0 ∧ u.ilp.reportTimer ≠ some 0 ∧ u.slp.statusTimer ≠ some 0) := by decide +kernel

/-- A fitted door, for the clause on the list that a warm restart leaves; a FIRE trigger that finds no room, and one
that does; the two causes are named by the command. -/
theorem witness_StartsPowerOnOrKeepRetainedState :
    (∃ d : Door, fitted (oneDoor .opened) d = true) ∧
    (let full : List ReleaseRecord := (List.range 16).map fun i => ⟨i + 1, .handle ⟨i % 40, by omega⟩, none, .active, 0, 0, 1⟩
     overflowsAny 0 none [.fire] full = true ∧ overflowsAny 0 none [.fire, .per] (full.drop 1) = true ∧
       overflowsAny 0 none [.fire] (full.drop 1) = false) ∧
    (∃ l cause, Instr.warmRestart l = .warmRestart (presentLevels State.reset) ∧ cause = RestartCause.stationRestart) :=
  ⟨⟨0, by decide +kernel⟩, by decide +kernel, _, _, rfl, rfl⟩

end Sys2Proof.Tests
end

section
/-! SUPPORT. How frame statements compose, which train requests reach their owner, which notices of the readers are
movement, and what a movement that enters CREEP leaves at the end of its command (R45, R55, R56). -/

namespace Sys2Proof.Machine

/-! ## Frame statements compose -/

theorem keepsPart_trans {p : StatePart} {s t u : State} (hst : keepsPart p s t) (htu : keepsPart p t u) :
    keepsPart p s u := by
  cases p
  case modes =>
    have hview : { u.mac with berthView := s.mac.berthView, test := s.mac.test } =
        { t.mac with berthView := s.mac.berthView, test := s.mac.test } :=
      congrArg (fun m : Mac => { m with berthView := s.mac.berthView, test := s.mac.test }) htu
    exact Eq.trans hview hst
  all_goals simp_all [keepsPart, settleKept]

theorem keepsBut_mono {l l' : List StatePart} {s t : State} (hl : l ⊆ l') (h : keepsBut l s t) : keepsBut l' s t :=
  fun p hp => h p fun hm => hp (hl hm)

theorem keepsBut_trans {l : List StatePart} {s t u : State} (hst : keepsBut l s t) (htu : keepsBut l t u) :
    keepsBut l s u :=
  fun p hp => keepsPart_trans (hst p hp) (htu p hp)

/-- The reports at the end of a command change no kind of state that a frame statement names. -/
theorem keepsBut_handPorts (due : Due) (s0 s : State) : keepsBut [] s (handPorts due s0 s) := by
  intro p _
  cases p <;> simp [keepsPart, settleKept]

theorem keepsBut_sendReply (f : Frame) (r : Reply) (s : State) : keepsBut [] s (sendReply f r s) := by
  intro p _
  cases p <;> simp [keepsPart, settleKept]

theorem keepsBut_finish (due : Due) (s0 s : State) : keepsBut [] (handCopies s0 s) (finish due s0 s) :=
  keepsBut_handPorts due s0 (handCopies s0 s)

theorem keepsBut_finishRequest (f : Frame) (k : Byte) (due : Due) (s0 : State) (a : Answer) :
    keepsBut [] (handCopies s0 a.state) (finishRequest f k due s0 a) :=
  keepsBut_trans (keepsBut_sendReply f _ _) (keepsBut_handPorts due s0 _)

/-! ## A train request that reaches its owner (R155) -/

/-- A request that needs a session, in an open session of its own version, of a kind defined for that version and let
through by the gate, is its owner's. -/
theorem trainAnswer_owner {α : Type} (k : TrainKind) (f : Frame) (form : Version → List Byte → Option α)
    (owner : α → State → Answer) (s : State) (a : α) (hs : inSession f s)
    (hv : k.version2Only = true → f.version = .v2) (hm : k.automaticOnly = true → s.mac.mode = .automatic)
    (hf : form f.version f.payload = some a) : trainAnswer k f form owner s = owner a s := by
  obtain ⟨⟨hlink, -⟩, hopen, hversion⟩ := hs
  have hopen' : sessionOpen s = true := by simp [sessionOpen, hopen]
  have hjudged : judgedVersion f s = f.version := by simp [judgedVersion, hopen', hversion]
  have hvr : versionRefused k f s = false := by
    cases hk : k.version2Only
    · simp [versionRefused, hk, hjudged]
    · simp [versionRefused, hjudged, hv hk]
  unfold trainAnswer
  rw [if_neg (by simp [hlink]), hf]
  simp only [hvr, hopen']
  rw [if_neg (by simp), if_neg fun h => h.2 (hm h.1), if_neg (by simp)]

/-- The whole of such a request: the owner's answer on the served port, and the end of the command. -/
theorem trainRequest_owner {α : Type} (k : TrainKind) (f : Frame) (form : Version → List Byte → Option α)
    (owner : α → State → Answer) (s : State) (a : α) (hs : inSession f s) (hk : k.opensSession = false)
    (hv : k.version2Only = true → f.version = .v2) (hm : k.automaticOnly = true → s.mac.mode = .automatic)
    (hf : form f.version f.payload = some a) :
    trainRequest k f form owner s =
      finishRequest f k.code Due.none (fresh s) (owner a (receive f.link (fresh s))) := by
  have hdue : s.restartDue = false := by
    obtain ⟨⟨-, hdue⟩, -⟩ := hs
    exact hdue
  rw [trainRequest_eq k f form owner s hdue,
    trainAnswer_owner k f form owner (receive f.link (fresh s)) a (by simpa [inSession, arrivedOn] using hs) hv
      (by simpa using hm) hf]
  simp [hk, Due.none]

/-! ## What is movement (R45) -/

theorem reportsAreMovement_iff (s : State) : reportsAreMovement s = true ↔ trainUnmeasured s := by
  unfold reportsAreMovement trainUnmeasured readerNormal
  cases s.berth.heading with
  | none => simp
  | some h => cases hf : (readerAt s h).faultState <;> simp [hf]

/-- The motion that a report states, stored in the berth record (R36). -/
def storeMotion (m : Option TrainMotion) (x : Option Int) (s : State) : State :=
  { s with berth := { s.berth with trainMotion := m, trainReportedFrontX := x } }

/-- Storing the motion moves neither the stop count nor the readers, so a moving report of a train that was unmeasured
before it is movement after it. -/
theorem reportMoves_storeMotion (x : Option Int) (s : State) (hu : trainUnmeasured s) :
    reportMoves (storeMotion (some .moving) x s) = true := by
  have hmove : reportsAreMovement (storeMotion (some .moving) x s) = true := (reportsAreMovement_iff _).mpr hu
  rw [reportMoves, hmove]
  rfl

/-- A STOP_REPORT that sets moving, in a berth that has left ARRIVING and does not measure the train. -/
theorem bsqStopReport_moving (r : StopReport) (s : State) (he : s.berth.state ≠ .empty)
    (ha : s.berth.state ≠ .arriving) (hlo : -5000 ≤ r.offset) (hhi : r.offset ≤ 5000) (hm : r.moving = true)
    (hu : trainUnmeasured s) :
    bsqStopReport r s = done (movement (storeMotion (some .moving) none s)) := by
  have hmotion : motionOf r.stopped r.moving = some .moving := by simp [motionOf, hm]
  have hfront : frontAfterReport s r = none := by simp [frontAfterReport, hmotion]
  have hrange : ¬(r.offset < -5000 ∨ 5000 < r.offset) := by omega
  unfold bsqStopReport
  simp only [he, ha, hrange, hmotion, hfront, if_false]
  exact if_pos (reportMoves_storeMotion none s hu)

/-- A PRESENCE that sets moving, in a berth that has left ARRIVING and does not measure the train. -/
theorem bsqPresence_moving (p : Presence) (s : State) (he : s.berth.state ≠ .empty)
    (ha : s.berth.state ≠ .arriving) (hm : p.moving = true) (hu : trainUnmeasured s) :
    bsqPresence p s = done (movement (storeMotion (some .moving) s.berth.trainReportedFrontX s)) := by
  have hmotion : motionOf p.stopped p.moving = some .moving := by simp [motionOf, hm]
  unfold bsqPresence
  simp only [he, ha, hmotion, if_false]
  exact if_pos (reportMoves_storeMotion s.berth.trainReportedFrontX s hu)

/-- A beam notice of the measuring end is movement once the berth has left ARRIVING, but for the clear in DEPARTING that
ends the occupancy (R45, R58). -/
theorem beamNotice_measuring (e : End) (new : Beam) (forward : Option Bool) (s : State)
    (hm : s.berth.heading = some e) (he : s.berth.state ≠ .empty) (ha : s.berth.state ≠ .arriving)
    (hd : s.berth.state = .departing → new = .broken) : beamNotice e new forward s = movement s := by
  unfold beamNotice measuring
  cases hst : s.berth.state with
  | empty => exact absurd hst he
  | arriving => exact absurd hst ha
  | departing => simp [hm, hd hst]
  | stopped | released | dispatching | creep => simp [hm]

/-- A step notice of the measuring end beyond the creep threshold is movement in STOPPED, RELEASED and DISPATCHING. -/
theorem stepNotice_beyond (e : End) (count : Int) (s : State) (hm : s.berth.heading = some e)
    (hs : s.berth.state = .stopped ∨ s.berth.state = .released ∨ s.berth.state = .dispatching)
    (hb : beyondCreep s count = true) : stepNotice e count s = movement s := by
  unfold stepNotice measuring
  rcases hs with hs | hs | hs <;> simp [hs, hm, hb]

theorem beyondCreep_iff (s : State) (count : Int) :
    beyondCreep s count = true ↔
      ∃ c, s.berth.stopCount = some c ∧ s.geo.berth.creepThreshold < (count - c).natAbs := by
  unfold beyondCreep
  cases s.berth.stopCount <;> simp

/-! ## Events at a reader (R17, R19, R23, R24) -/

theorem transitionOf_linesTowards (dir : End) (lines : LineState) :
    transitionOf lines (linesTowards dir lines) = .valid dir := by
  revert lines
  cases dir <;> decide

theorem setReader_setReader (s : State) (e : End) (r r' : Reader) :
    setReader (setReader s e r) e r' = setReader s e r' := by
  cases e <;> rfl

theorem countStep_count (dir : End) (r : Reader) :
    (countStep dir r).count = r.count + if dir = r.sense then 1 else -1 := by
  unfold countStep
  split <;> rfl

theorem offerStep_counted {e dir : End} {s : State} (h : stepRefused dir (readerAt s e) = false) :
    offerStep e dir s =
      stepNotice e ((readerAt s e).count + if dir = (readerAt s e).sense then 1 else -1)
        (setReader s e (countStep dir (readerAt s e))) := by
  simp [offerStep, h, countStep_count]

/-- A counted step stores the levels and the count of its reader, and hands the new count to the BSQ. -/
theorem takeLines_counted {e dir : End} {lines : LineState} {s : State} (h : countedStep e dir lines s) :
    takeLines e lines s =
      stepNotice e ((readerAt s e).count + if dir = (readerAt s e).sense then 1 else -1)
        (setReader s e (countStep dir { readerAt s e with lineState := lines })) := by
  obtain ⟨hnormal, hrefused, hlines⟩ := h
  have hoffer : takeLines e lines s = offerStep e dir (setReader s e { readerAt s e with lineState := lines }) := by
    simp [takeLines, hlines, transitionOf_linesTowards, readerNormal, hnormal]
  rw [hoffer, offerStep_counted (by rw [readerAt_setReader_self]; exact hrefused), readerAt_setReader_self,
    setReader_setReader]

@[simp] theorem readerAt_fresh (s : State) (e : End) : readerAt (fresh s) e = readerAt s e := by
  cases e <;> rfl

theorem takeBeamBreak_clear {e : End} {s : State} (h : (readerAt s e).beam = .clear) :
    takeBeamBreak e s =
      beamNotice e .broken (lastForward (readerAt s e)) (setReader s e (breakBeam (readerAt s e))) := by
  simp [takeBeamBreak, h]

theorem takeBeamClear_broken {e : End} {s : State} (h : (readerAt s e).beam = .broken) :
    takeBeamClear e s =
      beamNotice e .clear (lastForward (readerAt s e)) (setReader s e (clearBeam (readerAt s e))) := by
  simp [takeBeamClear, h]

/-! ## Entry to CREEP (R56) -/

theorem movement_released {s : State} (h : s.berth.state = .released) : movement s = enterCreep s := by
  simp [movement, h]

/-- What a movement may have stored by the time the BSQ takes it: the port's service, the reader's record, and the
motion that a report states. The rest is as it was before the command. -/
def movementStored (s v : State) : Prop :=
  v.berth = { s.berth with
    trainMotion := v.berth.trainMotion, trainReportedFrontX := v.berth.trainReportedFrontX } ∧
  v.departureQuiet = s.departureQuiet ∧ keepsBut [.links, .readers, .berth] s v

theorem movementStored_setReader (s : State) (e : End) (r : Reader) :
    movementStored s (setReader (fresh s) e r) := by
  refine ⟨by simp, by simp, ?_⟩
  intro p hp
  cases p <;> simp_all [keepsPart]

theorem movementStored_storeMotion (s : State) (link : Link) (m : Option TrainMotion) (x : Option Int) :
    movementStored s (storeMotion m x (receive link (fresh s))) := by
  refine ⟨by simp [storeMotion], by simp [storeMotion], ?_⟩
  intro p hp
  cases p <;> simp_all [keepsPart, storeMotion]

theorem creepEntered_congr {s t t' : State} (h : creepEntered s t) (hk : keepsBut [] t t') : creepEntered s t' := by
  obtain ⟨hberth, ⟨hsettle, howed⟩, hquiet, hflags, hview, hkeeps⟩ := h
  obtain ⟨kberth, ⟨ksettle, kowed⟩, kquiet⟩ := hk .berth List.not_mem_nil
  have kflags : t'.slp.flags = t.slp.flags := hk .flags List.not_mem_nil
  obtain ⟨kview, -, -⟩ := hk .views List.not_mem_nil
  refine ⟨?_, ⟨ksettle.trans hsettle, kowed.trans howed⟩, kquiet.trans hquiet, kflags.trans hflags,
    kview.trans hview, keepsBut_trans hkeeps (keepsBut_mono (List.nil_subset _) hk)⟩
  rw [kberth]
  exact hberth

/-- Entry to CREEP and the handing of the copies touch the berth, the copies of its state, the test it ends, the secure
logic and the flags, and nothing else. -/
theorem keepsBut_enterCreep (s0 v : State) :
    keepsBut [.berth, .views, .test, .secure, .flags] v (handCopies s0 (enterCreep v)) := by
  intro p hp
  cases p
  case modes =>
    simp only [keepsPart, handCopies_mac]
    split <;> rfl
  all_goals simp_all [keepsPart, enterCreep]

/-- CREEP entered from a state that is neither CREEP nor ARRIVING, with the copies handed: the berth view follows, and
the departure quiet time, which only the ARRIVING conditions move, is as it was. -/
theorem creepEntered_handCopies {s v : State} (hc : s.berth.state ≠ .creep) (ha : s.berth.state ≠ .arriving)
    (h : movementStored s v) : creepEntered s (handCopies (fresh s) (enterCreep v)) := by
  obtain ⟨hberth, hquiet, hkeeps⟩ := h
  obtain ⟨hgeo, -⟩ : v.geo = s.geo ∧ v.store = s.store := hkeeps .config (by decide)
  have hflags : v.slp.flags = s.slp.flags := hkeeps .flags (by decide)
  refine ⟨?_, ?_, ?_, ?_, ?_,
    keepsBut_trans (keepsBut_mono (by decide) hkeeps) (keepsBut_mono (by decide) (keepsBut_enterCreep _ _))⟩
  · rw [handCopies_berth]
    simp only [enterCreep, setFlag_berth, startSettle_berth]
    rw [hberth]
  · simp [enterCreep, settleStarted, hgeo]
  · simp [handCopies_departureQuiet, arrivingQuiet, enterCreep, ha, hquiet]
  · simp [enterCreep, hflags]
  · simp [handCopies_mac, enterCreep, Ne.symm hc]

theorem creepEntered_event {s v : State} {effect : State → State} (hc : s.berth.state ≠ .creep)
    (ha : s.berth.state ≠ .arriving) (h : movementStored s v) (he : effect (fresh s) = enterCreep v) :
    creepEntered s (event effect s) := by
  have hevent : event effect s = finish Due.none (fresh s) (enterCreep v) := by rw [← he]; rfl
  rw [hevent]
  exact creepEntered_congr (creepEntered_handCopies hc ha h) (keepsBut_finish _ _ _)

theorem creepEntered_finishRequest {s v : State} (f : Frame) (k : Byte) (due : Due) (hc : s.berth.state ≠ .creep)
    (ha : s.berth.state ≠ .arriving) (h : movementStored s v) :
    creepEntered s (finishRequest f k due (fresh s) (done (enterCreep v))) :=
  creepEntered_congr (creepEntered_handCopies hc ha h)
    (keepsBut_finishRequest f k due (fresh s) (done (enterCreep v)))

/-! ## Movement in RELEASED (R55) -/

/-- An event at a reader that is movement in RELEASED: CREEP, with the motion that the train stated last. -/
theorem readerMovement_released {s : State} {e : End} {r : Reader} {effect : State → State}
    (hs : s.berth.state = .released) (he : effect (fresh s) = movement (setReader (fresh s) e r)) :
    (event effect s).berth.trainMotion = s.berth.trainMotion ∧
    (event effect s).berth.trainReportedFrontX = s.berth.trainReportedFrontX ∧ creepEntered s (event effect s) := by
  rw [movement_released (by simpa using hs)] at he
  have hberth : (event effect s).berth = (enterCreep (setReader (fresh s) e r)).berth := by simp [event, he]
  refine ⟨?_, ?_, creepEntered_event (by simp [hs]) (by simp [hs]) (movementStored_setReader s e r) he⟩ <;>
    simp [hberth, enterCreep]

/-- A train's report that is movement in RELEASED: taken, and CREEP, with the motion that it states. -/
theorem reportMovement_released {s t : State} {f : Frame} {k : Byte} {m : Option TrainMotion} {x : Option Int}
    (hs : s.berth.state = .released)
    (ht : t = finishRequest f k Due.none (fresh s)
      (done (movement (storeMotion m x (receive f.link (fresh s)))))) :
    taken f k s t ∧ (t.berth.trainMotion = m ∧ t.berth.trainReportedFrontX = x) ∧ creepEntered s t := by
  have hv : (storeMotion m x (receive f.link (fresh s))).berth.state = .released := by simpa [storeMotion] using hs
  rw [movement_released hv] at ht
  rw [ht]
  refine ⟨?_, ?_, creepEntered_finishRequest f k Due.none (by simp [hs]) (by simp [hs])
    (movementStored_storeMotion s f.link m x)⟩
  · refine finishRequest_answered f k Due.none s (done (enterCreep (storeMotion m x (receive f.link (fresh s))))) ?_ ?_
    · simp [done, enterCreep, storeMotion]
    · cases f.link <;> simp [keepsPart, done, enterCreep, storeMotion]
  · simp [done, enterCreep, storeMotion]

theorem trainUnmeasured_receive {s : State} (link : Link) (h : trainUnmeasured s) :
    trainUnmeasured (receive link (fresh s)) := by
  cases link <;> exact h

theorem stopReport_released {s : State} {f : Frame} {r : StopReport} (hs : s.berth.state = .released)
    (hf : inSession f s) (hv : f.version = .v2) (hr : formStopReport f.version f.payload = some r)
    (hlo : -5000 ≤ r.offset) (hhi : r.offset ≤ 5000) (hm : r.moving = true) (hu : trainUnmeasured s) :
    ∃ t, exec (.stopReport f) s = .next t ∧ taken f 0x11 s t ∧ motionAfter (.stopReport f) s t ∧
      creepEntered s t := by
  have hrequest := trainRequest_owner kindStopReport f formStopReport bsqStopReport s r hf rfl (fun _ => hv) nofun hr
  rw [bsqStopReport_moving r _ (by simp [hs]) (by simp [hs]) hlo hhi hm (trainUnmeasured_receive f.link hu)]
    at hrequest
  obtain ⟨htaken, hmotion, hcreep⟩ := reportMovement_released hs hrequest
  exact ⟨_, rfl, htaken, hmotion, hcreep⟩

theorem presence_released {s : State} {f : Frame} {p : Presence} (hs : s.berth.state = .released)
    (hf : inSession f s) (hp : formPresence f.version f.payload = some p) (hm : p.moving = true)
    (hu : trainUnmeasured s) :
    ∃ t, exec (.presence f) s = .next t ∧ taken f 0x12 s t ∧ motionAfter (.presence f) s t ∧
      creepEntered s t := by
  have hrequest := trainRequest_owner kindPresence f formPresence bsqPresence s p hf rfl nofun nofun hp
  rw [bsqPresence_moving p _ (by simp [hs]) (by simp [hs]) hm (trainUnmeasured_receive f.link hu), receive_berth,
    fresh_berth] at hrequest
  obtain ⟨htaken, hmotion, hcreep⟩ := reportMovement_released hs hrequest
  exact ⟨_, rfl, htaken, hmotion, hcreep⟩

theorem beamBreak_released {s : State} {e : End} (hs : s.berth.state = .released) (he : s.berth.heading = some e)
    (hb : (readerAt s e).beam = .clear) :
    ∃ t, exec (.beamBreak e) s = .next t ∧ motionAfter (.beamBreak e) s t ∧ creepEntered s t := by
  have heffect : takeBeamBreak e (fresh s) = movement (setReader (fresh s) e (breakBeam (readerAt s e))) := by
    rw [takeBeamBreak_clear (by simpa using hb), beamNotice_measuring] <;> simp [he, hs]
  obtain ⟨hmotion, hfront, hcreep⟩ := readerMovement_released hs heffect
  exact ⟨_, rfl, ⟨hmotion, hfront⟩, hcreep⟩

theorem beamClear_released {s : State} {e : End} (hs : s.berth.state = .released) (he : s.berth.heading = some e)
    (hb : (readerAt s e).beam = .broken) :
    ∃ t, exec (.beamClear e) s = .next t ∧ motionAfter (.beamClear e) s t ∧ creepEntered s t := by
  have heffect : takeBeamClear e (fresh s) = movement (setReader (fresh s) e (clearBeam (readerAt s e))) := by
    rw [takeBeamClear_broken (by simpa using hb), beamNotice_measuring] <;> simp [he, hs]
  obtain ⟨hmotion, hfront, hcreep⟩ := readerMovement_released hs heffect
  exact ⟨_, rfl, ⟨hmotion, hfront⟩, hcreep⟩

theorem countedStep_released {s : State} {e dir : End} {lines : LineState} {c : Int}
    (hs : s.berth.state = .released) (he : s.berth.heading = some e) (hstep : countedStep e dir lines s)
    (hc : s.berth.stopCount = some c)
    (hb : s.geo.berth.creepThreshold <
      ((readerAt s e).count + (if dir = (readerAt s e).sense then 1 else -1) - c).natAbs) :
    ∃ t, exec (.lineTransition e lines) s = .next t ∧
      t.berth.trainMotion = s.berth.trainMotion ∧ t.berth.trainReportedFrontX = s.berth.trainReportedFrontX ∧
      creepEntered s t := by
  have heffect : takeLines e lines (fresh s) =
      movement (setReader (fresh s) e (countStep dir { readerAt s e with lineState := lines })) := by
    rw [takeLines_counted (by simpa [countedStep] using hstep), readerAt_fresh, stepNotice_beyond]
    · simpa using he
    · simp [hs]
    · exact (beyondCreep_iff _ _).mpr ⟨c, by simpa using hc, by simpa using hb⟩
  exact ⟨_, rfl, readerMovement_released hs heffect⟩

/-- Settles O22: each movement of R45 reaches the BSQ as a movement, which in RELEASED enters CREEP. -/
theorem movementInReleasedGivesCreep : Obligations.MovementInReleasedGivesCreep := by
  intro s hs
  refine ⟨?stopReport, ?presence, ?beamBreak, ?beamClear, ?step⟩
  case stopReport =>
    intro f r hf hv hr hlo hhi hm hu
    exact stopReport_released hs hf hv hr hlo hhi hm hu
  case presence =>
    intro f p hf hp hm hu
    exact presence_released hs hf hp hm hu
  case beamBreak => exact fun e he hb => beamBreak_released hs he hb
  case beamClear => exact fun e he hb => beamClear_released hs he hb
  case step =>
    intro e dir c he hn hc hr hb
    cases dir <;> exact countedStep_released hs he ⟨hn, hr, rfl⟩ hc hb

end Sys2Proof.Machine
end

section
/-! SUPPORT. What an event that acts on the MAC alone leaves at the end of its command, and what an edge of the LOCAL
switch writes in the MAC record (R139). -/

namespace Sys2Proof.Machine

/-! ## Events that act on the MAC alone -/

/-- The departure quiet time runs on where the ARRIVING conditions are as they were (R58). -/
theorem handCopies_departureQuiet_of_arrivingQuiet {s0 s : State} (h : arrivingQuiet s = arrivingQuiet s0) :
    (handCopies s0 s).departureQuiet = s.departureQuiet := by
  simp [handCopies_departureQuiet, h]

/-- The MAC is handed a change of the berth state alone, and such an event makes none: the record stands as the effect
left it. -/
theorem event_mac {effect : State → State} {s : State} {m : Mac} (he : effect (fresh s) = { fresh s with mac := m }) :
    (event effect s).mac = m := by
  simp [event, he, finish_mac, handCopies_mac]

/-- Beyond the MAC record such an event reaches only the secure logic, which takes the mode as an input (R127). -/
theorem keepsBut_event_mac {effect : State → State} {s : State} {m : Mac}
    (he : effect (fresh s) = { fresh s with mac := m }) (hview : m.berthView = s.mac.berthView) :
    keepsBut [.modes, .test, .secure] s (event effect s) := by
  have hcopies : keepsBut [.modes, .test, .secure] s (handCopies (fresh s) { fresh s with mac := m }) := by
    intro p hp
    cases p
    case modes | test | secure => simp at hp
    case berth => exact ⟨by simp, by simp [settleKept], handCopies_departureQuiet_of_arrivingQuiet rfl⟩
    case views => simp [keepsPart, handCopies_mac, handCopies_ssc, doorStatesOf, doorAt, hview]
    all_goals simp [keepsPart]
  have hevent : event effect s = finish Due.none (fresh s) { fresh s with mac := m } := by rw [← he]; rfl
  rw [hevent]
  exact keepsBut_trans hcopies (keepsBut_mono (List.nil_subset _) (keepsBut_finish _ _ _))

/-- A kind of state that is kept after all leaves the list of what a command may change. -/
theorem keepsBut_of_keepsPart {l l' : List StatePart} {p : StatePart} {s t : State} (h : keepsBut l s t)
    (hp : keepsPart p s t) (hl : l ⊆ p :: l') : keepsBut l' s t := by
  intro q hq
  by_cases hqp : q = p
  · exact hqp ▸ hp
  · exact h q fun hm => (List.mem_cons.mp (hl hm)).elim hqp hq

/-! ## An edge of the LOCAL switch (R139) -/

theorem modeOfSwitch_eq (p : SwitchPosition) :
    modeOfSwitch p = if p = .atLocal then .localMode else .automatic := by
  cases p <;> rfl

/-- A change of mode from any mode but MAINTENANCE leaves the test record (R150). -/
theorem testInMode_of_ne {old : PlatformMode} (h : old ≠ .maintenance) (new : PlatformMode) (t : Option TestRecord) :
    testInMode old new t = t := by
  simp [testInMode, h]

/-- The position is stored; the mode follows it where AUTOMATIC or LOCAL stands, so a test, which needs MAINTENANCE, is
never ended by an edge. -/
theorem takeSwitchEdge_of_ne {p : SwitchPosition} {s : State} (h : s.mac.localSwitch ≠ p) :
    takeSwitchEdge p s = { s with mac := { s.mac with
      localSwitch := p
      mode := if s.mac.mode = .automatic ∨ s.mac.mode = .localMode then modeOfSwitch p else s.mac.mode } } := by
  cases hm : s.mac.mode with
  | automatic | localMode => simp [takeSwitchEdge, h, hm, setMode, testInMode_of_ne]
  | maintenance | fire => simp [takeSwitchEdge, h, hm]

/-- Settles O44: the edge acts on the MAC alone, and leaves its test record as it stood. -/
theorem localSwitchEdgeChoosesMode : Obligations.LocalSwitchEdgeChoosesMode := by
  intro p s h
  have he := takeSwitchEdge_of_ne (p := p) (s := fresh s) h
  have hmac := event_mac he
  have hkeeps := keepsBut_event_mac he rfl
  have htest : keepsPart .test s (event (takeSwitchEdge p) s) := by simp [keepsPart, hmac]
  refine ⟨event (takeSwitchEdge p) s, rfl, ?_, keepsBut_of_keepsPart hkeeps htest (by decide)⟩
  rw [hmac, modeOfSwitch_eq]
  rfl

end Sys2Proof.Machine
end
